-- ==== Sys2Proof/Word.lean ====
section
/-! DEFINITION. The word types of the 65C02 core: bytes, 16-bit words, and the pin vector's carrier. -/

namespace Sys2Proof

/-- A register or data-bus byte (`10_state.md` R10 to R12, R14; `20_memory.md` R51). -/
abbrev Byte := BitVec 8

/-- A 16-bit value: PC, AD, an address (`10_state.md` R13, R19; `20_memory.md` R51). -/
abbrev Word := BitVec 16

/-- The pin vector: 40 meaningful bits carried in a 64-bit word (`10_state.md` R25, R28). -/
abbrev Pins := BitVec 64

end Sys2Proof
end

