-- ==== Sys2Proof/Config.lean ====
section
/-! DEFINITION. What is fixed for the machine: the addresses the core fixes (`20_memory.md` R63), the type of a
memory map (`20_memory.md` R56), and the values this model gives the OPEN parameters of `00_scope.md` R5 in its reset
state. No free value is needed: `70_reset_and_hazards.md` R259. -/

namespace Sys2Proof

/-- What a region of the host's address space is made of (`20_memory.md` R56, R58). -/
inductive RegionKind where
  /-- Reads answer the stored byte, writes store. -/
  | ram
  /-- Reads answer the stored byte, a write is dropped (`20_memory.md` R58). -/
  | rom
deriving DecidableEq, Repr

/-- A `(base, limit, device)` region of the host's memory map, both ends included (`20_memory.md` R56). -/
structure Region where
  base  : Nat
  limit : Nat
  kind  : RegionKind
deriving DecidableEq, Repr

namespace Config

/-- The stack page: a stack access uses `0x0100 | S` (`10_state.md` R12, `20_memory.md` R63). -/
def stackPage : Word := 0x0100#16

/-- The NMI vector, low byte here, high byte at the next address (`20_memory.md` R63). -/
def nmiVector : Word := 0xFFFA#16

/-- The reset vector (`20_memory.md` R63). -/
def resetVector : Word := 0xFFFC#16

/-- The vector IRQ and BRK share (`20_memory.md` R63). -/
def irqVector : Word := 0xFFFE#16

/-- What a mapped address reads as when memory lists nothing there.
DESIGN CHOICE (log 3): the spec leaves `MEM` OPEN; its own test host is zero-filled. Unsafe. -/
def unlistedByte : Byte := 0x00#8

/-- `S_POWERUP` in the reset state. DESIGN CHOICE (log 1): the parameter is OPEN (`00_scope.md` R5). Unsafe. -/
def sPowerUp : Byte := 0x00#8

/-- `AD_POWERUP` in the power-up state. DESIGN CHOICE (log 2): the parameter is OPEN (`00_scope.md` R5). Safe: AD is
always written before it is read (`10_state.md` R19). -/
def adPowerUp : Word := 0x0000#16

/-- The memory map of the reset state: 32 KB RAM at 0x0000 and 32 KB ROM at 0x8000, the example of `20_memory.md` R56.
DESIGN CHOICE (log 3): the spec leaves `MEM` OPEN. Unsafe. -/
def referenceMap : List Region :=
  [⟨0x0000, 0x7FFF, .ram⟩, ⟨0x8000, 0xFFFF, .rom⟩]

end Config
end Sys2Proof
end

