-- ==== Sys2Proof/Syntax.lean ====
section
/-! DEFINITION. The instructions: one constructor per row of spec/opcode_table.json, in the table's order. The 33
admitted opcodes (`30_encoding.md` R77) carry the operand bytes of their format (R70 to R76): `imm8` (R73) or the 16-bit
address `addr16` (R74). BRK carries none: the byte after it is read and discarded (R75; log 8). Each of the other 223
opcode values is a constructor of its own, named by its informative W65C02S name (R83) and its opcode value; it has no
operands, since no length is defined for it (R80). -/

namespace Sys2Proof

inductive Instr where
  /-- 0x00, BRK format BRK (`46_flag_system.md` R187). -/
  | brk
  /-- 0x01, ORA (zp,x): no micro-program (R200). -/
  | ora_ind_zp_x_01
  /-- 0x02, NOP #: no micro-program (R200). -/
  | nop_2_02
  /-- 0x03, NOP: no micro-program (R200). -/
  | nop_03
  /-- 0x04, TSB zp: no micro-program (R200). -/
  | tsb_zp_04
  /-- 0x05, ORA zp: no micro-program (R200). -/
  | ora_zp_05
  /-- 0x06, ASL zp: no micro-program (R200). -/
  | asl_zp_06
  /-- 0x07, RMB0 zp: no micro-program (R200). -/
  | rmb0_zp_07
  /-- 0x08, PHP s: no micro-program (R200). -/
  | php_s_08
  /-- 0x09, ORA format IMM (`43_logic_arith.md` R140). -/
  | oraImm (imm8 : Byte)
  /-- 0x0A, ASL format ACC (`44_shift_rotate.md` R160). -/
  | aslAcc
  /-- 0x0B, NOP: no micro-program (R200). -/
  | nop_0B
  /-- 0x0C, TSB a: no micro-program (R200). -/
  | tsb_a_0C
  /-- 0x0D, ORA format ABS (`43_logic_arith.md` R141). -/
  | oraAbs (addr16 : Word)
  /-- 0x0E, ASL format ABS (`44_shift_rotate.md` R161). -/
  | aslAbs (addr16 : Word)
  /-- 0x0F, BBR0 r: no micro-program (R200). -/
  | bbr0_r_0F
  /-- 0x10, BPL r: no micro-program (R200). -/
  | bpl_r_10
  /-- 0x11, ORA (zp),y: no micro-program (R200). -/
  | ora_ind_zp_y_11
  /-- 0x12, ORA (zp): no micro-program (R200). -/
  | ora_ind_zp_12
  /-- 0x13, NOP: no micro-program (R200). -/
  | nop_13
  /-- 0x14, TRB zp: no micro-program (R200). -/
  | trb_zp_14
  /-- 0x15, ORA zp,x: no micro-program (R200). -/
  | ora_zp_x_15
  /-- 0x16, ASL zp,x: no micro-program (R200). -/
  | asl_zp_x_16
  /-- 0x17, RMB1 zp: no micro-program (R200). -/
  | rmb1_zp_17
  /-- 0x18, CLC format IMP (`46_flag_system.md` R180). -/
  | clc
  /-- 0x19, ORA a,y: no micro-program (R200). -/
  | ora_a_y_19
  /-- 0x1A, INC A: no micro-program (R200). -/
  | inc_a_1A
  /-- 0x1B, NOP: no micro-program (R200). -/
  | nop_1B
  /-- 0x1C, TRB a: no micro-program (R200). -/
  | trb_a_1C
  /-- 0x1D, ORA a,x: no micro-program (R200). -/
  | ora_a_x_1D
  /-- 0x1E, ASL a,x: no micro-program (R200). -/
  | asl_a_x_1E
  /-- 0x1F, BBR1 r: no micro-program (R200). -/
  | bbr1_r_1F
  /-- 0x20, JSR format ABS (`45_jump.md` R171). -/
  | jsr (addr16 : Word)
  /-- 0x21, AND (zp,x): no micro-program (R200). -/
  | and_ind_zp_x_21
  /-- 0x22, NOP #: no micro-program (R200). -/
  | nop_2_22
  /-- 0x23, NOP: no micro-program (R200). -/
  | nop_23
  /-- 0x24, BIT zp: no micro-program (R200). -/
  | bit_zp_24
  /-- 0x25, AND zp: no micro-program (R200). -/
  | and_zp_25
  /-- 0x26, ROL zp: no micro-program (R200). -/
  | rol_zp_26
  /-- 0x27, RMB2 zp: no micro-program (R200). -/
  | rmb2_zp_27
  /-- 0x28, PLP s: no micro-program (R200). -/
  | plp_s_28
  /-- 0x29, AND format IMM (`43_logic_arith.md` R142). -/
  | andImm (imm8 : Byte)
  /-- 0x2A, ROL format ACC (`44_shift_rotate.md` R162). -/
  | rolAcc
  /-- 0x2B, NOP: no micro-program (R200). -/
  | nop_2B
  /-- 0x2C, BIT a: no micro-program (R200). -/
  | bit_a_2C
  /-- 0x2D, AND format ABS (`43_logic_arith.md` R143). -/
  | andAbs (addr16 : Word)
  /-- 0x2E, ROL format ABS (`44_shift_rotate.md` R163). -/
  | rolAbs (addr16 : Word)
  /-- 0x2F, BBR2 r: no micro-program (R200). -/
  | bbr2_r_2F
  /-- 0x30, BMI r: no micro-program (R200). -/
  | bmi_r_30
  /-- 0x31, AND (zp),y: no micro-program (R200). -/
  | and_ind_zp_y_31
  /-- 0x32, AND (zp): no micro-program (R200). -/
  | and_ind_zp_32
  /-- 0x33, NOP: no micro-program (R200). -/
  | nop_33
  /-- 0x34, BIT zp,x: no micro-program (R200). -/
  | bit_zp_x_34
  /-- 0x35, AND zp,x: no micro-program (R200). -/
  | and_zp_x_35
  /-- 0x36, ROL zp,x: no micro-program (R200). -/
  | rol_zp_x_36
  /-- 0x37, RMB3 zp: no micro-program (R200). -/
  | rmb3_zp_37
  /-- 0x38, SEC format IMP (`46_flag_system.md` R181). -/
  | sec
  /-- 0x39, AND a,y: no micro-program (R200). -/
  | and_a_y_39
  /-- 0x3A, DEC A: no micro-program (R200). -/
  | dec_a_3A
  /-- 0x3B, NOP: no micro-program (R200). -/
  | nop_3B
  /-- 0x3C, BIT a,x: no micro-program (R200). -/
  | bit_a_x_3C
  /-- 0x3D, AND a,x: no micro-program (R200). -/
  | and_a_x_3D
  /-- 0x3E, ROL a,x: no micro-program (R200). -/
  | rol_a_x_3E
  /-- 0x3F, BBR3 r: no micro-program (R200). -/
  | bbr3_r_3F
  /-- 0x40, RTI s: no micro-program (R200). -/
  | rti_s_40
  /-- 0x41, EOR (zp,x): no micro-program (R200). -/
  | eor_ind_zp_x_41
  /-- 0x42, NOP #: no micro-program (R200). -/
  | nop_2_42
  /-- 0x43, NOP: no micro-program (R200). -/
  | nop_43
  /-- 0x44, NOP zp: no micro-program (R200). -/
  | nop_zp_44
  /-- 0x45, EOR zp: no micro-program (R200). -/
  | eor_zp_45
  /-- 0x46, LSR zp: no micro-program (R200). -/
  | lsr_zp_46
  /-- 0x47, RMB4 zp: no micro-program (R200). -/
  | rmb4_zp_47
  /-- 0x48, PHA s: no micro-program (R200). -/
  | pha_s_48
  /-- 0x49, EOR format IMM (`43_logic_arith.md` R144). -/
  | eorImm (imm8 : Byte)
  /-- 0x4A, LSR format ACC (`44_shift_rotate.md` R164). -/
  | lsrAcc
  /-- 0x4B, NOP: no micro-program (R200). -/
  | nop_4B
  /-- 0x4C, JMP format ABS (`45_jump.md` R170). -/
  | jmp (addr16 : Word)
  /-- 0x4D, EOR format ABS (`43_logic_arith.md` R145). -/
  | eorAbs (addr16 : Word)
  /-- 0x4E, LSR format ABS (`44_shift_rotate.md` R165). -/
  | lsrAbs (addr16 : Word)
  /-- 0x4F, BBR4 r: no micro-program (R200). -/
  | bbr4_r_4F
  /-- 0x50, BVC r: no micro-program (R200). -/
  | bvc_r_50
  /-- 0x51, EOR (zp),y: no micro-program (R200). -/
  | eor_ind_zp_y_51
  /-- 0x52, EOR (zp): no micro-program (R200). -/
  | eor_ind_zp_52
  /-- 0x53, NOP: no micro-program (R200). -/
  | nop_53
  /-- 0x54, NOP zp,x: no micro-program (R200). -/
  | nop_zp_x_54
  /-- 0x55, EOR zp,x: no micro-program (R200). -/
  | eor_zp_x_55
  /-- 0x56, LSR zp,x: no micro-program (R200). -/
  | lsr_zp_x_56
  /-- 0x57, RMB5 zp: no micro-program (R200). -/
  | rmb5_zp_57
  /-- 0x58, CLI format IMP (`46_flag_system.md` R182). -/
  | cli
  /-- 0x59, EOR a,y: no micro-program (R200). -/
  | eor_a_y_59
  /-- 0x5A, PHY s: no micro-program (R200). -/
  | phy_s_5A
  /-- 0x5B, NOP: no micro-program (R200). -/
  | nop_5B
  /-- 0x5C, NOP a: no micro-program (R200). -/
  | nop_a_5C
  /-- 0x5D, EOR a,x: no micro-program (R200). -/
  | eor_a_x_5D
  /-- 0x5E, LSR a,x: no micro-program (R200). -/
  | lsr_a_x_5E
  /-- 0x5F, BBR5 r: no micro-program (R200). -/
  | bbr5_r_5F
  /-- 0x60, RTS s: no micro-program (R200). -/
  | rts_s_60
  /-- 0x61, ADC (zp,x): no micro-program (R200). -/
  | adc_ind_zp_x_61
  /-- 0x62, NOP #: no micro-program (R200). -/
  | nop_2_62
  /-- 0x63, NOP: no micro-program (R200). -/
  | nop_63
  /-- 0x64, STZ zp: no micro-program (R200). -/
  | stz_zp_64
  /-- 0x65, ADC zp: no micro-program (R200). -/
  | adc_zp_65
  /-- 0x66, ROR zp: no micro-program (R200). -/
  | ror_zp_66
  /-- 0x67, RMB6 zp: no micro-program (R200). -/
  | rmb6_zp_67
  /-- 0x68, PLA s: no micro-program (R200). -/
  | pla_s_68
  /-- 0x69, ADC format IMM (`43_logic_arith.md` R146). -/
  | adcImm (imm8 : Byte)
  /-- 0x6A, ROR format ACC (`44_shift_rotate.md` R166). -/
  | rorAcc
  /-- 0x6B, NOP: no micro-program (R200). -/
  | nop_6B
  /-- 0x6C, JMP (a): no micro-program (R200). -/
  | jmp_ind_a_6C
  /-- 0x6D, ADC format ABS (`43_logic_arith.md` R147). -/
  | adcAbs (addr16 : Word)
  /-- 0x6E, ROR format ABS (`44_shift_rotate.md` R167). -/
  | rorAbs (addr16 : Word)
  /-- 0x6F, BBR6 r: no micro-program (R200). -/
  | bbr6_r_6F
  /-- 0x70, BVS r: no micro-program (R200). -/
  | bvs_r_70
  /-- 0x71, ADC (zp),y: no micro-program (R200). -/
  | adc_ind_zp_y_71
  /-- 0x72, ADC (zp): no micro-program (R200). -/
  | adc_ind_zp_72
  /-- 0x73, NOP: no micro-program (R200). -/
  | nop_73
  /-- 0x74, STZ zp,x: no micro-program (R200). -/
  | stz_zp_x_74
  /-- 0x75, ADC zp,x: no micro-program (R200). -/
  | adc_zp_x_75
  /-- 0x76, ROR zp,x: no micro-program (R200). -/
  | ror_zp_x_76
  /-- 0x77, RMB7 zp: no micro-program (R200). -/
  | rmb7_zp_77
  /-- 0x78, SEI format IMP (`46_flag_system.md` R183). -/
  | sei
  /-- 0x79, ADC a,y: no micro-program (R200). -/
  | adc_a_y_79
  /-- 0x7A, PLY s: no micro-program (R200). -/
  | ply_s_7A
  /-- 0x7B, NOP: no micro-program (R200). -/
  | nop_7B
  /-- 0x7C, JMP (a,x): no micro-program (R200). -/
  | jmp_ind_a_x_7C
  /-- 0x7D, ADC a,x: no micro-program (R200). -/
  | adc_a_x_7D
  /-- 0x7E, ROR a,x: no micro-program (R200). -/
  | ror_a_x_7E
  /-- 0x7F, BBR7 r: no micro-program (R200). -/
  | bbr7_r_7F
  /-- 0x80, BRA r: no micro-program (R200). -/
  | bra_r_80
  /-- 0x81, STA (zp,x): no micro-program (R200). -/
  | sta_ind_zp_x_81
  /-- 0x82, NOP #: no micro-program (R200). -/
  | nop_2_82
  /-- 0x83, NOP: no micro-program (R200). -/
  | nop_83
  /-- 0x84, STY zp: no micro-program (R200). -/
  | sty_zp_84
  /-- 0x85, STA zp: no micro-program (R200). -/
  | sta_zp_85
  /-- 0x86, STX zp: no micro-program (R200). -/
  | stx_zp_86
  /-- 0x87, SMB0 zp: no micro-program (R200). -/
  | smb0_zp_87
  /-- 0x88, DEY i: no micro-program (R200). -/
  | dey_i_88
  /-- 0x89, BIT #: no micro-program (R200). -/
  | bit_89
  /-- 0x8A, TXA i: no micro-program (R200). -/
  | txa_i_8A
  /-- 0x8B, NOP: no micro-program (R200). -/
  | nop_8B
  /-- 0x8C, STY a: no micro-program (R200). -/
  | sty_a_8C
  /-- 0x8D, STA format ABS (`42_load_store.md` R132). -/
  | sta (addr16 : Word)
  /-- 0x8E, STX a: no micro-program (R200). -/
  | stx_a_8E
  /-- 0x8F, BBS0 r: no micro-program (R200). -/
  | bbs0_r_8F
  /-- 0x90, BCC r: no micro-program (R200). -/
  | bcc_r_90
  /-- 0x91, STA (zp),y: no micro-program (R200). -/
  | sta_ind_zp_y_91
  /-- 0x92, STA (zp): no micro-program (R200). -/
  | sta_ind_zp_92
  /-- 0x93, NOP: no micro-program (R200). -/
  | nop_93
  /-- 0x94, STY zp,x: no micro-program (R200). -/
  | sty_zp_x_94
  /-- 0x95, STA zp,x: no micro-program (R200). -/
  | sta_zp_x_95
  /-- 0x96, STX zp,y: no micro-program (R200). -/
  | stx_zp_y_96
  /-- 0x97, SMB1 zp: no micro-program (R200). -/
  | smb1_zp_97
  /-- 0x98, TYA i: no micro-program (R200). -/
  | tya_i_98
  /-- 0x99, STA a,y: no micro-program (R200). -/
  | sta_a_y_99
  /-- 0x9A, TXS i: no micro-program (R200). -/
  | txs_i_9A
  /-- 0x9B, NOP: no micro-program (R200). -/
  | nop_9B
  /-- 0x9C, STZ a: no micro-program (R200). -/
  | stz_a_9C
  /-- 0x9D, STA a,x: no micro-program (R200). -/
  | sta_a_x_9D
  /-- 0x9E, STZ a,x: no micro-program (R200). -/
  | stz_a_x_9E
  /-- 0x9F, BBS1 r: no micro-program (R200). -/
  | bbs1_r_9F
  /-- 0xA0, LDY #: no micro-program (R200). -/
  | ldy_A0
  /-- 0xA1, LDA (zp,x): no micro-program (R200). -/
  | lda_ind_zp_x_A1
  /-- 0xA2, LDX #: no micro-program (R200). -/
  | ldx_A2
  /-- 0xA3, NOP: no micro-program (R200). -/
  | nop_A3
  /-- 0xA4, LDY zp: no micro-program (R200). -/
  | ldy_zp_A4
  /-- 0xA5, LDA zp: no micro-program (R200). -/
  | lda_zp_A5
  /-- 0xA6, LDX zp: no micro-program (R200). -/
  | ldx_zp_A6
  /-- 0xA7, SMB2 zp: no micro-program (R200). -/
  | smb2_zp_A7
  /-- 0xA8, TAY i: no micro-program (R200). -/
  | tay_i_A8
  /-- 0xA9, LDA format IMM (`42_load_store.md` R130). -/
  | ldaImm (imm8 : Byte)
  /-- 0xAA, TAX i: no micro-program (R200). -/
  | tax_i_AA
  /-- 0xAB, NOP: no micro-program (R200). -/
  | nop_AB
  /-- 0xAC, LDY a: no micro-program (R200). -/
  | ldy_a_AC
  /-- 0xAD, LDA format ABS (`42_load_store.md` R131). -/
  | ldaAbs (addr16 : Word)
  /-- 0xAE, LDX a: no micro-program (R200). -/
  | ldx_a_AE
  /-- 0xAF, BBS2 r: no micro-program (R200). -/
  | bbs2_r_AF
  /-- 0xB0, BCS r: no micro-program (R200). -/
  | bcs_r_B0
  /-- 0xB1, LDA (zp),y: no micro-program (R200). -/
  | lda_ind_zp_y_B1
  /-- 0xB2, LDA (zp): no micro-program (R200). -/
  | lda_ind_zp_B2
  /-- 0xB3, NOP: no micro-program (R200). -/
  | nop_B3
  /-- 0xB4, LDY zp,x: no micro-program (R200). -/
  | ldy_zp_x_B4
  /-- 0xB5, LDA zp,x: no micro-program (R200). -/
  | lda_zp_x_B5
  /-- 0xB6, LDX zp,y: no micro-program (R200). -/
  | ldx_zp_y_B6
  /-- 0xB7, SMB3 zp: no micro-program (R200). -/
  | smb3_zp_B7
  /-- 0xB8, CLV format IMP (`46_flag_system.md` R184). -/
  | clv
  /-- 0xB9, LDA a,y: no micro-program (R200). -/
  | lda_a_y_B9
  /-- 0xBA, TSX i: no micro-program (R200). -/
  | tsx_i_BA
  /-- 0xBB, NOP: no micro-program (R200). -/
  | nop_BB
  /-- 0xBC, LDY a,x: no micro-program (R200). -/
  | ldy_a_x_BC
  /-- 0xBD, LDA a,x: no micro-program (R200). -/
  | lda_a_x_BD
  /-- 0xBE, LDX a,y: no micro-program (R200). -/
  | ldx_a_y_BE
  /-- 0xBF, BBS3 r: no micro-program (R200). -/
  | bbs3_r_BF
  /-- 0xC0, CPY #: no micro-program (R200). -/
  | cpy_C0
  /-- 0xC1, CMP (zp,x): no micro-program (R200). -/
  | cmp_ind_zp_x_C1
  /-- 0xC2, NOP #: no micro-program (R200). -/
  | nop_2_C2
  /-- 0xC3, NOP: no micro-program (R200). -/
  | nop_C3
  /-- 0xC4, CPY zp: no micro-program (R200). -/
  | cpy_zp_C4
  /-- 0xC5, CMP zp: no micro-program (R200). -/
  | cmp_zp_C5
  /-- 0xC6, DEC zp: no micro-program (R200). -/
  | dec_zp_C6
  /-- 0xC7, SMB4 zp: no micro-program (R200). -/
  | smb4_zp_C7
  /-- 0xC8, INY i: no micro-program (R200). -/
  | iny_i_C8
  /-- 0xC9, CMP format IMM (`43_logic_arith.md` R150). -/
  | cmpImm (imm8 : Byte)
  /-- 0xCA, DEX i: no micro-program (R200). -/
  | dex_i_CA
  /-- 0xCB, WAI i: no micro-program (R200). -/
  | wai_i_CB
  /-- 0xCC, CPY a: no micro-program (R200). -/
  | cpy_a_CC
  /-- 0xCD, CMP format ABS (`43_logic_arith.md` R151). -/
  | cmpAbs (addr16 : Word)
  /-- 0xCE, DEC a: no micro-program (R200). -/
  | dec_a_CE
  /-- 0xCF, BBS4 r: no micro-program (R200). -/
  | bbs4_r_CF
  /-- 0xD0, BNE r: no micro-program (R200). -/
  | bne_r_D0
  /-- 0xD1, CMP (zp),y: no micro-program (R200). -/
  | cmp_ind_zp_y_D1
  /-- 0xD2, CMP (zp): no micro-program (R200). -/
  | cmp_ind_zp_D2
  /-- 0xD3, NOP: no micro-program (R200). -/
  | nop_D3
  /-- 0xD4, NOP zp,x: no micro-program (R200). -/
  | nop_zp_x_D4
  /-- 0xD5, CMP zp,x: no micro-program (R200). -/
  | cmp_zp_x_D5
  /-- 0xD6, DEC zp,x: no micro-program (R200). -/
  | dec_zp_x_D6
  /-- 0xD7, SMB5 zp: no micro-program (R200). -/
  | smb5_zp_D7
  /-- 0xD8, CLD format IMP (`46_flag_system.md` R185). -/
  | cld
  /-- 0xD9, CMP a,y: no micro-program (R200). -/
  | cmp_a_y_D9
  /-- 0xDA, PHX s: no micro-program (R200). -/
  | phx_s_DA
  /-- 0xDB, STP i: no micro-program (R200). -/
  | stp_i_DB
  /-- 0xDC, NOP a: no micro-program (R200). -/
  | nop_a_DC
  /-- 0xDD, CMP a,x: no micro-program (R200). -/
  | cmp_a_x_DD
  /-- 0xDE, DEC a,x: no micro-program (R200). -/
  | dec_a_x_DE
  /-- 0xDF, BBS5 r: no micro-program (R200). -/
  | bbs5_r_DF
  /-- 0xE0, CPX #: no micro-program (R200). -/
  | cpx_E0
  /-- 0xE1, SBC (zp,x): no micro-program (R200). -/
  | sbc_ind_zp_x_E1
  /-- 0xE2, NOP #: no micro-program (R200). -/
  | nop_2_E2
  /-- 0xE3, NOP: no micro-program (R200). -/
  | nop_E3
  /-- 0xE4, CPX zp: no micro-program (R200). -/
  | cpx_zp_E4
  /-- 0xE5, SBC zp: no micro-program (R200). -/
  | sbc_zp_E5
  /-- 0xE6, INC zp: no micro-program (R200). -/
  | inc_zp_E6
  /-- 0xE7, SMB6 zp: no micro-program (R200). -/
  | smb6_zp_E7
  /-- 0xE8, INX i: no micro-program (R200). -/
  | inx_i_E8
  /-- 0xE9, SBC format IMM (`43_logic_arith.md` R148). -/
  | sbcImm (imm8 : Byte)
  /-- 0xEA, NOP i: no micro-program (R200). -/
  | nop_i_EA
  /-- 0xEB, NOP: no micro-program (R200). -/
  | nop_EB
  /-- 0xEC, CPX a: no micro-program (R200). -/
  | cpx_a_EC
  /-- 0xED, SBC format ABS (`43_logic_arith.md` R149). -/
  | sbcAbs (addr16 : Word)
  /-- 0xEE, INC a: no micro-program (R200). -/
  | inc_a_EE
  /-- 0xEF, BBS6 r: no micro-program (R200). -/
  | bbs6_r_EF
  /-- 0xF0, BEQ r: no micro-program (R200). -/
  | beq_r_F0
  /-- 0xF1, SBC (zp),y: no micro-program (R200). -/
  | sbc_ind_zp_y_F1
  /-- 0xF2, SBC (zp): no micro-program (R200). -/
  | sbc_ind_zp_F2
  /-- 0xF3, NOP: no micro-program (R200). -/
  | nop_F3
  /-- 0xF4, NOP zp,x: no micro-program (R200). -/
  | nop_zp_x_F4
  /-- 0xF5, SBC zp,x: no micro-program (R200). -/
  | sbc_zp_x_F5
  /-- 0xF6, INC zp,x: no micro-program (R200). -/
  | inc_zp_x_F6
  /-- 0xF7, SMB7 zp: no micro-program (R200). -/
  | smb7_zp_F7
  /-- 0xF8, SED format IMP (`46_flag_system.md` R186). -/
  | sed
  /-- 0xF9, SBC a,y: no micro-program (R200). -/
  | sbc_a_y_F9
  /-- 0xFA, PLX s: no micro-program (R200). -/
  | plx_s_FA
  /-- 0xFB, NOP: no micro-program (R200). -/
  | nop_FB
  /-- 0xFC, NOP a: no micro-program (R200). -/
  | nop_a_FC
  /-- 0xFD, SBC a,x: no micro-program (R200). -/
  | sbc_a_x_FD
  /-- 0xFE, INC a,x: no micro-program (R200). -/
  | inc_a_x_FE
  /-- 0xFF, BBS7 r: no micro-program (R200). -/
  | bbs7_r_FF
deriving DecidableEq, Repr

end Sys2Proof
end

