-- ==== Sys2Proof/WellFormed.lean ====
section
/-! DEFINITION. What is well formed: an instruction that has a micro-program (`00_scope.md` R6, `30_encoding.md` R77),
and a memory map the host's constructor accepts (`20_memory.md` R56). The operand bytes of an admitted instruction are
unconstrained (`93_implementation_defined.md` U20), so the first check is on the constructor alone. -/

namespace Sys2Proof

/-- One of the 33 admitted opcodes (`30_encoding.md` R77); the other 223 have no micro-program (R79). -/
def Instr.admitted : Instr → Bool
  | .brk | .oraImm _ | .aslAcc | .oraAbs _ | .aslAbs _ | .clc
  | .jsr _ | .andImm _ | .rolAcc | .andAbs _ | .rolAbs _ | .sec
  | .eorImm _ | .lsrAcc | .jmp _ | .eorAbs _ | .lsrAbs _ | .cli
  | .adcImm _ | .rorAcc | .adcAbs _ | .rorAbs _ | .sei | .sta _
  | .ldaImm _ | .ldaAbs _ | .clv | .cmpImm _ | .cmpAbs _ | .cld
  | .sbcImm _ | .sbcAbs _ | .sed => true
  | .ora_ind_zp_x_01 | .nop_2_02 | .nop_03 | .tsb_zp_04 | .ora_zp_05 | .asl_zp_06
  | .rmb0_zp_07 | .php_s_08 | .nop_0B | .tsb_a_0C | .bbr0_r_0F | .bpl_r_10
  | .ora_ind_zp_y_11 | .ora_ind_zp_12 | .nop_13 | .trb_zp_14 | .ora_zp_x_15 | .asl_zp_x_16
  | .rmb1_zp_17 | .ora_a_y_19 | .inc_a_1A | .nop_1B | .trb_a_1C | .ora_a_x_1D
  | .asl_a_x_1E | .bbr1_r_1F | .and_ind_zp_x_21 | .nop_2_22 | .nop_23 | .bit_zp_24
  | .and_zp_25 | .rol_zp_26 | .rmb2_zp_27 | .plp_s_28 | .nop_2B | .bit_a_2C
  | .bbr2_r_2F | .bmi_r_30 | .and_ind_zp_y_31 | .and_ind_zp_32 | .nop_33 | .bit_zp_x_34
  | .and_zp_x_35 | .rol_zp_x_36 | .rmb3_zp_37 | .and_a_y_39 | .dec_a_3A | .nop_3B
  | .bit_a_x_3C | .and_a_x_3D | .rol_a_x_3E | .bbr3_r_3F | .rti_s_40 | .eor_ind_zp_x_41
  | .nop_2_42 | .nop_43 | .nop_zp_44 | .eor_zp_45 | .lsr_zp_46 | .rmb4_zp_47
  | .pha_s_48 | .nop_4B | .bbr4_r_4F | .bvc_r_50 | .eor_ind_zp_y_51 | .eor_ind_zp_52
  | .nop_53 | .nop_zp_x_54 | .eor_zp_x_55 | .lsr_zp_x_56 | .rmb5_zp_57 | .eor_a_y_59
  | .phy_s_5A | .nop_5B | .nop_a_5C | .eor_a_x_5D | .lsr_a_x_5E | .bbr5_r_5F
  | .rts_s_60 | .adc_ind_zp_x_61 | .nop_2_62 | .nop_63 | .stz_zp_64 | .adc_zp_65
  | .ror_zp_66 | .rmb6_zp_67 | .pla_s_68 | .nop_6B | .jmp_ind_a_6C | .bbr6_r_6F
  | .bvs_r_70 | .adc_ind_zp_y_71 | .adc_ind_zp_72 | .nop_73 | .stz_zp_x_74 | .adc_zp_x_75
  | .ror_zp_x_76 | .rmb7_zp_77 | .adc_a_y_79 | .ply_s_7A | .nop_7B | .jmp_ind_a_x_7C
  | .adc_a_x_7D | .ror_a_x_7E | .bbr7_r_7F | .bra_r_80 | .sta_ind_zp_x_81 | .nop_2_82
  | .nop_83 | .sty_zp_84 | .sta_zp_85 | .stx_zp_86 | .smb0_zp_87 | .dey_i_88
  | .bit_89 | .txa_i_8A | .nop_8B | .sty_a_8C | .stx_a_8E | .bbs0_r_8F
  | .bcc_r_90 | .sta_ind_zp_y_91 | .sta_ind_zp_92 | .nop_93 | .sty_zp_x_94 | .sta_zp_x_95
  | .stx_zp_y_96 | .smb1_zp_97 | .tya_i_98 | .sta_a_y_99 | .txs_i_9A | .nop_9B
  | .stz_a_9C | .sta_a_x_9D | .stz_a_x_9E | .bbs1_r_9F | .ldy_A0 | .lda_ind_zp_x_A1
  | .ldx_A2 | .nop_A3 | .ldy_zp_A4 | .lda_zp_A5 | .ldx_zp_A6 | .smb2_zp_A7
  | .tay_i_A8 | .tax_i_AA | .nop_AB | .ldy_a_AC | .ldx_a_AE | .bbs2_r_AF
  | .bcs_r_B0 | .lda_ind_zp_y_B1 | .lda_ind_zp_B2 | .nop_B3 | .ldy_zp_x_B4 | .lda_zp_x_B5
  | .ldx_zp_y_B6 | .smb3_zp_B7 | .lda_a_y_B9 | .tsx_i_BA | .nop_BB | .ldy_a_x_BC
  | .lda_a_x_BD | .ldx_a_y_BE | .bbs3_r_BF | .cpy_C0 | .cmp_ind_zp_x_C1 | .nop_2_C2
  | .nop_C3 | .cpy_zp_C4 | .cmp_zp_C5 | .dec_zp_C6 | .smb4_zp_C7 | .iny_i_C8
  | .dex_i_CA | .wai_i_CB | .cpy_a_CC | .dec_a_CE | .bbs4_r_CF | .bne_r_D0
  | .cmp_ind_zp_y_D1 | .cmp_ind_zp_D2 | .nop_D3 | .nop_zp_x_D4 | .cmp_zp_x_D5 | .dec_zp_x_D6
  | .smb5_zp_D7 | .cmp_a_y_D9 | .phx_s_DA | .stp_i_DB | .nop_a_DC | .cmp_a_x_DD
  | .dec_a_x_DE | .bbs5_r_DF | .cpx_E0 | .sbc_ind_zp_x_E1 | .nop_2_E2 | .nop_E3
  | .cpx_zp_E4 | .sbc_zp_E5 | .inc_zp_E6 | .smb6_zp_E7 | .inx_i_E8 | .nop_i_EA
  | .nop_EB | .cpx_a_EC | .inc_a_EE | .bbs6_r_EF | .beq_r_F0 | .sbc_ind_zp_y_F1
  | .sbc_ind_zp_F2 | .nop_F3 | .nop_zp_x_F4 | .sbc_zp_x_F5 | .inc_zp_x_F6 | .smb7_zp_F7
  | .sbc_a_y_F9 | .plx_s_FA | .nop_FB | .nop_a_FC | .sbc_a_x_FD | .inc_a_x_FE
  | .bbs7_r_FF => false

/-- A well-formed instruction is one that has a micro-program. -/
abbrev Instr.WellFormed (i : Instr) : Prop := i.admitted = true

/-- The two errors of the memory collaborator's constructor (`20_memory.md` R56). -/
inductive MapError where
  /-- Two regions share an address ("OverlapError"). -/
  | overlap
  /-- The regions reach past the 64 KB space ("TooLargeError"). -/
  | tooLarge
deriving DecidableEq, Repr

/-- Two regions share no address. -/
def Region.disjoint (r q : Region) : Bool := decide (r.limit < q.base) || decide (q.limit < r.base)

/-- No two regions of the map share an address. -/
def mapDisjoint : List Region → Bool
  | [] => true
  | r :: rest => rest.all r.disjoint && mapDisjoint rest

/-- Every region ends inside the 64 KB space (log 12: how "the union exceeds 64KB" is read). -/
def mapFits (map : List Region) : Bool := map.all fun r => decide (r.limit ≤ 0xFFFF)

/-- The constructor check of `20_memory.md` R56: the error it fails with, if any. -/
def checkMap (map : List Region) : Option MapError :=
  if mapFits map then (if mapDisjoint map then none else some .overlap) else some .tooLarge

/-- The map is one the memory collaborator's constructor accepts (`20_memory.md` R56). -/
abbrev MapWellFormed (map : List Region) : Prop := checkMap map = none

end Sys2Proof
end

