-- ==== Sys2Proof/Decode.lean ====
section
/-! DEFINITION. The decoder and the encoder (`30_encoding.md`). Decoding is a match on the whole opcode byte (R78, R204):
the opcode map below has one entry per value, laid out row by row as the matrix of R83 (row = high hex digit, column =
low hex digit), and an entry says the instruction's format (R70) and its constructor. The encoder is written from the
same rule R77, one line per constructor. -/

namespace Sys2Proof

/-- `v.lo`, bits 7:0 (`00_scope.md` R37). -/
def lo (w : Word) : Byte := w.setWidth 8

/-- `v.hi`, bits 15:8 (`00_scope.md` R37). -/
def hi (w : Word) : Byte := (w >>> 8).setWidth 8

/-- `(hi << 8) | lo`, a 16-bit value from two bytes, low byte first in memory (`30_encoding.md` R74, R76). -/
def join (h l : Byte) : Word := (h.setWidth 16 <<< 8) ||| l.setWidth 16

/-- An entry of the opcode map: the format of `30_encoding.md` R70 and the instruction's constructor. -/
inductive OpShape where
  /-- The opcode is the whole instruction (IMP, ACC, BRK, and every unimplemented opcode). -/
  | bare (i : Instr)
  /-- One operand byte follows (IMM, R73). -/
  | imm (mk : Byte → Instr)
  /-- Two operand bytes follow, low byte first (ABS, R74). -/
  | abs (mk : Word → Instr)

/-- Row 0x of the opcode map (`30_encoding.md` R77, R83). -/
def opRow0 : List OpShape :=
  [.bare .brk, .bare .ora_ind_zp_x_01, .bare .nop_2_02, .bare .nop_03,
   .bare .tsb_zp_04, .bare .ora_zp_05, .bare .asl_zp_06, .bare .rmb0_zp_07,
   .bare .php_s_08, .imm .oraImm, .bare .aslAcc, .bare .nop_0B,
   .bare .tsb_a_0C, .abs .oraAbs, .abs .aslAbs, .bare .bbr0_r_0F]

/-- Row 1x of the opcode map (`30_encoding.md` R77, R83). -/
def opRow1 : List OpShape :=
  [.bare .bpl_r_10, .bare .ora_ind_zp_y_11, .bare .ora_ind_zp_12, .bare .nop_13,
   .bare .trb_zp_14, .bare .ora_zp_x_15, .bare .asl_zp_x_16, .bare .rmb1_zp_17,
   .bare .clc, .bare .ora_a_y_19, .bare .inc_a_1A, .bare .nop_1B,
   .bare .trb_a_1C, .bare .ora_a_x_1D, .bare .asl_a_x_1E, .bare .bbr1_r_1F]

/-- Row 2x of the opcode map (`30_encoding.md` R77, R83). -/
def opRow2 : List OpShape :=
  [.abs .jsr, .bare .and_ind_zp_x_21, .bare .nop_2_22, .bare .nop_23,
   .bare .bit_zp_24, .bare .and_zp_25, .bare .rol_zp_26, .bare .rmb2_zp_27,
   .bare .plp_s_28, .imm .andImm, .bare .rolAcc, .bare .nop_2B,
   .bare .bit_a_2C, .abs .andAbs, .abs .rolAbs, .bare .bbr2_r_2F]

/-- Row 3x of the opcode map (`30_encoding.md` R77, R83). -/
def opRow3 : List OpShape :=
  [.bare .bmi_r_30, .bare .and_ind_zp_y_31, .bare .and_ind_zp_32, .bare .nop_33,
   .bare .bit_zp_x_34, .bare .and_zp_x_35, .bare .rol_zp_x_36, .bare .rmb3_zp_37,
   .bare .sec, .bare .and_a_y_39, .bare .dec_a_3A, .bare .nop_3B,
   .bare .bit_a_x_3C, .bare .and_a_x_3D, .bare .rol_a_x_3E, .bare .bbr3_r_3F]

/-- Row 4x of the opcode map (`30_encoding.md` R77, R83). -/
def opRow4 : List OpShape :=
  [.bare .rti_s_40, .bare .eor_ind_zp_x_41, .bare .nop_2_42, .bare .nop_43,
   .bare .nop_zp_44, .bare .eor_zp_45, .bare .lsr_zp_46, .bare .rmb4_zp_47,
   .bare .pha_s_48, .imm .eorImm, .bare .lsrAcc, .bare .nop_4B,
   .abs .jmp, .abs .eorAbs, .abs .lsrAbs, .bare .bbr4_r_4F]

/-- Row 5x of the opcode map (`30_encoding.md` R77, R83). -/
def opRow5 : List OpShape :=
  [.bare .bvc_r_50, .bare .eor_ind_zp_y_51, .bare .eor_ind_zp_52, .bare .nop_53,
   .bare .nop_zp_x_54, .bare .eor_zp_x_55, .bare .lsr_zp_x_56, .bare .rmb5_zp_57,
   .bare .cli, .bare .eor_a_y_59, .bare .phy_s_5A, .bare .nop_5B,
   .bare .nop_a_5C, .bare .eor_a_x_5D, .bare .lsr_a_x_5E, .bare .bbr5_r_5F]

/-- Row 6x of the opcode map (`30_encoding.md` R77, R83). -/
def opRow6 : List OpShape :=
  [.bare .rts_s_60, .bare .adc_ind_zp_x_61, .bare .nop_2_62, .bare .nop_63,
   .bare .stz_zp_64, .bare .adc_zp_65, .bare .ror_zp_66, .bare .rmb6_zp_67,
   .bare .pla_s_68, .imm .adcImm, .bare .rorAcc, .bare .nop_6B,
   .bare .jmp_ind_a_6C, .abs .adcAbs, .abs .rorAbs, .bare .bbr6_r_6F]

/-- Row 7x of the opcode map (`30_encoding.md` R77, R83). -/
def opRow7 : List OpShape :=
  [.bare .bvs_r_70, .bare .adc_ind_zp_y_71, .bare .adc_ind_zp_72, .bare .nop_73,
   .bare .stz_zp_x_74, .bare .adc_zp_x_75, .bare .ror_zp_x_76, .bare .rmb7_zp_77,
   .bare .sei, .bare .adc_a_y_79, .bare .ply_s_7A, .bare .nop_7B,
   .bare .jmp_ind_a_x_7C, .bare .adc_a_x_7D, .bare .ror_a_x_7E, .bare .bbr7_r_7F]

/-- Row 8x of the opcode map (`30_encoding.md` R77, R83). -/
def opRow8 : List OpShape :=
  [.bare .bra_r_80, .bare .sta_ind_zp_x_81, .bare .nop_2_82, .bare .nop_83,
   .bare .sty_zp_84, .bare .sta_zp_85, .bare .stx_zp_86, .bare .smb0_zp_87,
   .bare .dey_i_88, .bare .bit_89, .bare .txa_i_8A, .bare .nop_8B,
   .bare .sty_a_8C, .abs .sta, .bare .stx_a_8E, .bare .bbs0_r_8F]

/-- Row 9x of the opcode map (`30_encoding.md` R77, R83). -/
def opRow9 : List OpShape :=
  [.bare .bcc_r_90, .bare .sta_ind_zp_y_91, .bare .sta_ind_zp_92, .bare .nop_93,
   .bare .sty_zp_x_94, .bare .sta_zp_x_95, .bare .stx_zp_y_96, .bare .smb1_zp_97,
   .bare .tya_i_98, .bare .sta_a_y_99, .bare .txs_i_9A, .bare .nop_9B,
   .bare .stz_a_9C, .bare .sta_a_x_9D, .bare .stz_a_x_9E, .bare .bbs1_r_9F]

/-- Row Ax of the opcode map (`30_encoding.md` R77, R83). -/
def opRowA : List OpShape :=
  [.bare .ldy_A0, .bare .lda_ind_zp_x_A1, .bare .ldx_A2, .bare .nop_A3,
   .bare .ldy_zp_A4, .bare .lda_zp_A5, .bare .ldx_zp_A6, .bare .smb2_zp_A7,
   .bare .tay_i_A8, .imm .ldaImm, .bare .tax_i_AA, .bare .nop_AB,
   .bare .ldy_a_AC, .abs .ldaAbs, .bare .ldx_a_AE, .bare .bbs2_r_AF]

/-- Row Bx of the opcode map (`30_encoding.md` R77, R83). -/
def opRowB : List OpShape :=
  [.bare .bcs_r_B0, .bare .lda_ind_zp_y_B1, .bare .lda_ind_zp_B2, .bare .nop_B3,
   .bare .ldy_zp_x_B4, .bare .lda_zp_x_B5, .bare .ldx_zp_y_B6, .bare .smb3_zp_B7,
   .bare .clv, .bare .lda_a_y_B9, .bare .tsx_i_BA, .bare .nop_BB,
   .bare .ldy_a_x_BC, .bare .lda_a_x_BD, .bare .ldx_a_y_BE, .bare .bbs3_r_BF]

/-- Row Cx of the opcode map (`30_encoding.md` R77, R83). -/
def opRowC : List OpShape :=
  [.bare .cpy_C0, .bare .cmp_ind_zp_x_C1, .bare .nop_2_C2, .bare .nop_C3,
   .bare .cpy_zp_C4, .bare .cmp_zp_C5, .bare .dec_zp_C6, .bare .smb4_zp_C7,
   .bare .iny_i_C8, .imm .cmpImm, .bare .dex_i_CA, .bare .wai_i_CB,
   .bare .cpy_a_CC, .abs .cmpAbs, .bare .dec_a_CE, .bare .bbs4_r_CF]

/-- Row Dx of the opcode map (`30_encoding.md` R77, R83). -/
def opRowD : List OpShape :=
  [.bare .bne_r_D0, .bare .cmp_ind_zp_y_D1, .bare .cmp_ind_zp_D2, .bare .nop_D3,
   .bare .nop_zp_x_D4, .bare .cmp_zp_x_D5, .bare .dec_zp_x_D6, .bare .smb5_zp_D7,
   .bare .cld, .bare .cmp_a_y_D9, .bare .phx_s_DA, .bare .stp_i_DB,
   .bare .nop_a_DC, .bare .cmp_a_x_DD, .bare .dec_a_x_DE, .bare .bbs5_r_DF]

/-- Row Ex of the opcode map (`30_encoding.md` R77, R83). -/
def opRowE : List OpShape :=
  [.bare .cpx_E0, .bare .sbc_ind_zp_x_E1, .bare .nop_2_E2, .bare .nop_E3,
   .bare .cpx_zp_E4, .bare .sbc_zp_E5, .bare .inc_zp_E6, .bare .smb6_zp_E7,
   .bare .inx_i_E8, .imm .sbcImm, .bare .nop_i_EA, .bare .nop_EB,
   .bare .cpx_a_EC, .abs .sbcAbs, .bare .inc_a_EE, .bare .bbs6_r_EF]

/-- Row Fx of the opcode map (`30_encoding.md` R77, R83). -/
def opRowF : List OpShape :=
  [.bare .beq_r_F0, .bare .sbc_ind_zp_y_F1, .bare .sbc_ind_zp_F2, .bare .nop_F3,
   .bare .nop_zp_x_F4, .bare .sbc_zp_x_F5, .bare .inc_zp_x_F6, .bare .smb7_zp_F7,
   .bare .sed, .bare .sbc_a_y_F9, .bare .plx_s_FA, .bare .nop_FB,
   .bare .nop_a_FC, .bare .sbc_a_x_FD, .bare .inc_a_x_FE, .bare .bbs7_r_FF]

/-- The opcode map, one row per high hex digit. -/
def opMap : List (List OpShape) :=
  [opRow0, opRow1, opRow2, opRow3, opRow4, opRow5, opRow6, opRow7,
   opRow8, opRow9, opRowA, opRowB, opRowC, opRowD, opRowE, opRowF]

/-- The map's entry for an opcode byte; the default is never used (every index is in range). -/
def opShape (op : Byte) : OpShape :=
  (opMap.getD (op.toNat / 16) []).getD (op.toNat % 16) (.bare .brk)

/-- Why bytes hold no instruction: the only way decoding can fail, since every opcode byte has an entry (R204). -/
inductive DecodeError where
  /-- No opcode byte. -/
  | empty
  /-- The operand bytes of this opcode are not all there. -/
  | truncated (opcode : Byte)
deriving DecidableEq, Repr

/-- The instruction at the head of a list of bytes, and the bytes after it (`30_encoding.md` R70, R78). -/
def decode : List Byte → Except DecodeError (Instr × List Byte)
  | [] => .error .empty
  | op :: rest =>
    match opShape op, rest with
    | .bare i, _ => .ok (i, rest)
    | .imm mk, v :: rest' => .ok (mk v, rest')
    | .abs mk, l :: h :: rest' => .ok (mk (join h l), rest')
    | _, _ => .error (.truncated op)

/-- The bytes of an instruction, opcode first (`30_encoding.md` R70, R77). -/
def encode : Instr → List Byte
  | .brk => [0x00#8]
  | .ora_ind_zp_x_01 => [0x01#8]
  | .nop_2_02 => [0x02#8]
  | .nop_03 => [0x03#8]
  | .tsb_zp_04 => [0x04#8]
  | .ora_zp_05 => [0x05#8]
  | .asl_zp_06 => [0x06#8]
  | .rmb0_zp_07 => [0x07#8]
  | .php_s_08 => [0x08#8]
  | .oraImm v => [0x09#8, v]
  | .aslAcc => [0x0A#8]
  | .nop_0B => [0x0B#8]
  | .tsb_a_0C => [0x0C#8]
  | .oraAbs a => [0x0D#8, lo a, hi a]
  | .aslAbs a => [0x0E#8, lo a, hi a]
  | .bbr0_r_0F => [0x0F#8]
  | .bpl_r_10 => [0x10#8]
  | .ora_ind_zp_y_11 => [0x11#8]
  | .ora_ind_zp_12 => [0x12#8]
  | .nop_13 => [0x13#8]
  | .trb_zp_14 => [0x14#8]
  | .ora_zp_x_15 => [0x15#8]
  | .asl_zp_x_16 => [0x16#8]
  | .rmb1_zp_17 => [0x17#8]
  | .clc => [0x18#8]
  | .ora_a_y_19 => [0x19#8]
  | .inc_a_1A => [0x1A#8]
  | .nop_1B => [0x1B#8]
  | .trb_a_1C => [0x1C#8]
  | .ora_a_x_1D => [0x1D#8]
  | .asl_a_x_1E => [0x1E#8]
  | .bbr1_r_1F => [0x1F#8]
  | .jsr a => [0x20#8, lo a, hi a]
  | .and_ind_zp_x_21 => [0x21#8]
  | .nop_2_22 => [0x22#8]
  | .nop_23 => [0x23#8]
  | .bit_zp_24 => [0x24#8]
  | .and_zp_25 => [0x25#8]
  | .rol_zp_26 => [0x26#8]
  | .rmb2_zp_27 => [0x27#8]
  | .plp_s_28 => [0x28#8]
  | .andImm v => [0x29#8, v]
  | .rolAcc => [0x2A#8]
  | .nop_2B => [0x2B#8]
  | .bit_a_2C => [0x2C#8]
  | .andAbs a => [0x2D#8, lo a, hi a]
  | .rolAbs a => [0x2E#8, lo a, hi a]
  | .bbr2_r_2F => [0x2F#8]
  | .bmi_r_30 => [0x30#8]
  | .and_ind_zp_y_31 => [0x31#8]
  | .and_ind_zp_32 => [0x32#8]
  | .nop_33 => [0x33#8]
  | .bit_zp_x_34 => [0x34#8]
  | .and_zp_x_35 => [0x35#8]
  | .rol_zp_x_36 => [0x36#8]
  | .rmb3_zp_37 => [0x37#8]
  | .sec => [0x38#8]
  | .and_a_y_39 => [0x39#8]
  | .dec_a_3A => [0x3A#8]
  | .nop_3B => [0x3B#8]
  | .bit_a_x_3C => [0x3C#8]
  | .and_a_x_3D => [0x3D#8]
  | .rol_a_x_3E => [0x3E#8]
  | .bbr3_r_3F => [0x3F#8]
  | .rti_s_40 => [0x40#8]
  | .eor_ind_zp_x_41 => [0x41#8]
  | .nop_2_42 => [0x42#8]
  | .nop_43 => [0x43#8]
  | .nop_zp_44 => [0x44#8]
  | .eor_zp_45 => [0x45#8]
  | .lsr_zp_46 => [0x46#8]
  | .rmb4_zp_47 => [0x47#8]
  | .pha_s_48 => [0x48#8]
  | .eorImm v => [0x49#8, v]
  | .lsrAcc => [0x4A#8]
  | .nop_4B => [0x4B#8]
  | .jmp a => [0x4C#8, lo a, hi a]
  | .eorAbs a => [0x4D#8, lo a, hi a]
  | .lsrAbs a => [0x4E#8, lo a, hi a]
  | .bbr4_r_4F => [0x4F#8]
  | .bvc_r_50 => [0x50#8]
  | .eor_ind_zp_y_51 => [0x51#8]
  | .eor_ind_zp_52 => [0x52#8]
  | .nop_53 => [0x53#8]
  | .nop_zp_x_54 => [0x54#8]
  | .eor_zp_x_55 => [0x55#8]
  | .lsr_zp_x_56 => [0x56#8]
  | .rmb5_zp_57 => [0x57#8]
  | .cli => [0x58#8]
  | .eor_a_y_59 => [0x59#8]
  | .phy_s_5A => [0x5A#8]
  | .nop_5B => [0x5B#8]
  | .nop_a_5C => [0x5C#8]
  | .eor_a_x_5D => [0x5D#8]
  | .lsr_a_x_5E => [0x5E#8]
  | .bbr5_r_5F => [0x5F#8]
  | .rts_s_60 => [0x60#8]
  | .adc_ind_zp_x_61 => [0x61#8]
  | .nop_2_62 => [0x62#8]
  | .nop_63 => [0x63#8]
  | .stz_zp_64 => [0x64#8]
  | .adc_zp_65 => [0x65#8]
  | .ror_zp_66 => [0x66#8]
  | .rmb6_zp_67 => [0x67#8]
  | .pla_s_68 => [0x68#8]
  | .adcImm v => [0x69#8, v]
  | .rorAcc => [0x6A#8]
  | .nop_6B => [0x6B#8]
  | .jmp_ind_a_6C => [0x6C#8]
  | .adcAbs a => [0x6D#8, lo a, hi a]
  | .rorAbs a => [0x6E#8, lo a, hi a]
  | .bbr6_r_6F => [0x6F#8]
  | .bvs_r_70 => [0x70#8]
  | .adc_ind_zp_y_71 => [0x71#8]
  | .adc_ind_zp_72 => [0x72#8]
  | .nop_73 => [0x73#8]
  | .stz_zp_x_74 => [0x74#8]
  | .adc_zp_x_75 => [0x75#8]
  | .ror_zp_x_76 => [0x76#8]
  | .rmb7_zp_77 => [0x77#8]
  | .sei => [0x78#8]
  | .adc_a_y_79 => [0x79#8]
  | .ply_s_7A => [0x7A#8]
  | .nop_7B => [0x7B#8]
  | .jmp_ind_a_x_7C => [0x7C#8]
  | .adc_a_x_7D => [0x7D#8]
  | .ror_a_x_7E => [0x7E#8]
  | .bbr7_r_7F => [0x7F#8]
  | .bra_r_80 => [0x80#8]
  | .sta_ind_zp_x_81 => [0x81#8]
  | .nop_2_82 => [0x82#8]
  | .nop_83 => [0x83#8]
  | .sty_zp_84 => [0x84#8]
  | .sta_zp_85 => [0x85#8]
  | .stx_zp_86 => [0x86#8]
  | .smb0_zp_87 => [0x87#8]
  | .dey_i_88 => [0x88#8]
  | .bit_89 => [0x89#8]
  | .txa_i_8A => [0x8A#8]
  | .nop_8B => [0x8B#8]
  | .sty_a_8C => [0x8C#8]
  | .sta a => [0x8D#8, lo a, hi a]
  | .stx_a_8E => [0x8E#8]
  | .bbs0_r_8F => [0x8F#8]
  | .bcc_r_90 => [0x90#8]
  | .sta_ind_zp_y_91 => [0x91#8]
  | .sta_ind_zp_92 => [0x92#8]
  | .nop_93 => [0x93#8]
  | .sty_zp_x_94 => [0x94#8]
  | .sta_zp_x_95 => [0x95#8]
  | .stx_zp_y_96 => [0x96#8]
  | .smb1_zp_97 => [0x97#8]
  | .tya_i_98 => [0x98#8]
  | .sta_a_y_99 => [0x99#8]
  | .txs_i_9A => [0x9A#8]
  | .nop_9B => [0x9B#8]
  | .stz_a_9C => [0x9C#8]
  | .sta_a_x_9D => [0x9D#8]
  | .stz_a_x_9E => [0x9E#8]
  | .bbs1_r_9F => [0x9F#8]
  | .ldy_A0 => [0xA0#8]
  | .lda_ind_zp_x_A1 => [0xA1#8]
  | .ldx_A2 => [0xA2#8]
  | .nop_A3 => [0xA3#8]
  | .ldy_zp_A4 => [0xA4#8]
  | .lda_zp_A5 => [0xA5#8]
  | .ldx_zp_A6 => [0xA6#8]
  | .smb2_zp_A7 => [0xA7#8]
  | .tay_i_A8 => [0xA8#8]
  | .ldaImm v => [0xA9#8, v]
  | .tax_i_AA => [0xAA#8]
  | .nop_AB => [0xAB#8]
  | .ldy_a_AC => [0xAC#8]
  | .ldaAbs a => [0xAD#8, lo a, hi a]
  | .ldx_a_AE => [0xAE#8]
  | .bbs2_r_AF => [0xAF#8]
  | .bcs_r_B0 => [0xB0#8]
  | .lda_ind_zp_y_B1 => [0xB1#8]
  | .lda_ind_zp_B2 => [0xB2#8]
  | .nop_B3 => [0xB3#8]
  | .ldy_zp_x_B4 => [0xB4#8]
  | .lda_zp_x_B5 => [0xB5#8]
  | .ldx_zp_y_B6 => [0xB6#8]
  | .smb3_zp_B7 => [0xB7#8]
  | .clv => [0xB8#8]
  | .lda_a_y_B9 => [0xB9#8]
  | .tsx_i_BA => [0xBA#8]
  | .nop_BB => [0xBB#8]
  | .ldy_a_x_BC => [0xBC#8]
  | .lda_a_x_BD => [0xBD#8]
  | .ldx_a_y_BE => [0xBE#8]
  | .bbs3_r_BF => [0xBF#8]
  | .cpy_C0 => [0xC0#8]
  | .cmp_ind_zp_x_C1 => [0xC1#8]
  | .nop_2_C2 => [0xC2#8]
  | .nop_C3 => [0xC3#8]
  | .cpy_zp_C4 => [0xC4#8]
  | .cmp_zp_C5 => [0xC5#8]
  | .dec_zp_C6 => [0xC6#8]
  | .smb4_zp_C7 => [0xC7#8]
  | .iny_i_C8 => [0xC8#8]
  | .cmpImm v => [0xC9#8, v]
  | .dex_i_CA => [0xCA#8]
  | .wai_i_CB => [0xCB#8]
  | .cpy_a_CC => [0xCC#8]
  | .cmpAbs a => [0xCD#8, lo a, hi a]
  | .dec_a_CE => [0xCE#8]
  | .bbs4_r_CF => [0xCF#8]
  | .bne_r_D0 => [0xD0#8]
  | .cmp_ind_zp_y_D1 => [0xD1#8]
  | .cmp_ind_zp_D2 => [0xD2#8]
  | .nop_D3 => [0xD3#8]
  | .nop_zp_x_D4 => [0xD4#8]
  | .cmp_zp_x_D5 => [0xD5#8]
  | .dec_zp_x_D6 => [0xD6#8]
  | .smb5_zp_D7 => [0xD7#8]
  | .cld => [0xD8#8]
  | .cmp_a_y_D9 => [0xD9#8]
  | .phx_s_DA => [0xDA#8]
  | .stp_i_DB => [0xDB#8]
  | .nop_a_DC => [0xDC#8]
  | .cmp_a_x_DD => [0xDD#8]
  | .dec_a_x_DE => [0xDE#8]
  | .bbs5_r_DF => [0xDF#8]
  | .cpx_E0 => [0xE0#8]
  | .sbc_ind_zp_x_E1 => [0xE1#8]
  | .nop_2_E2 => [0xE2#8]
  | .nop_E3 => [0xE3#8]
  | .cpx_zp_E4 => [0xE4#8]
  | .sbc_zp_E5 => [0xE5#8]
  | .inc_zp_E6 => [0xE6#8]
  | .smb6_zp_E7 => [0xE7#8]
  | .inx_i_E8 => [0xE8#8]
  | .sbcImm v => [0xE9#8, v]
  | .nop_i_EA => [0xEA#8]
  | .nop_EB => [0xEB#8]
  | .cpx_a_EC => [0xEC#8]
  | .sbcAbs a => [0xED#8, lo a, hi a]
  | .inc_a_EE => [0xEE#8]
  | .bbs6_r_EF => [0xEF#8]
  | .beq_r_F0 => [0xF0#8]
  | .sbc_ind_zp_y_F1 => [0xF1#8]
  | .sbc_ind_zp_F2 => [0xF2#8]
  | .nop_F3 => [0xF3#8]
  | .nop_zp_x_F4 => [0xF4#8]
  | .sbc_zp_x_F5 => [0xF5#8]
  | .inc_zp_x_F6 => [0xF6#8]
  | .smb7_zp_F7 => [0xF7#8]
  | .sed => [0xF8#8]
  | .sbc_a_y_F9 => [0xF9#8]
  | .plx_s_FA => [0xFA#8]
  | .nop_FB => [0xFB#8]
  | .nop_a_FC => [0xFC#8]
  | .sbc_a_x_FD => [0xFD#8]
  | .inc_a_x_FE => [0xFE#8]
  | .bbs7_r_FF => [0xFF#8]

/-- The opcode byte of an instruction (`30_encoding.md` R77). -/
def Instr.opcode (i : Instr) : Byte := (encode i).headD 0x00#8

/-- The length in bytes of an instruction (`30_encoding.md` R70). -/
def Instr.length (i : Instr) : Nat := (encode i).length

/-- The first `k` bytes of an instruction word whose bits are numbered as spec/opcode_table.json numbers them: bit 0 is
the least significant bit of the first byte. -/
def bytesOfBits : Nat → Nat → List Byte
  | 0, _ => []
  | k + 1, w => BitVec.ofNat 8 w :: bytesOfBits k (w / 256)

/-- The instruction this decoder reads from an opcode-table row's bits, operand bytes of zeros above them: the longest
instruction has 3 bytes (`30_encoding.md` R70). -/
def decodeTableWord (nbits w : Nat) : Option Instr :=
  match decode (bytesOfBits 3 (w % 2 ^ nbits)) with
  | .ok (i, _) => some i
  | .error _ => none

end Sys2Proof
end

