-- ==== Sys2Proof/Machine/State.lean ====
section
/-! DEFINITION. The state: the core's registers and engine fields (`10_state.md` R10 to R24), and the host of the
reference system that runs it (`20_memory.md` R57): the pin vector it carries between ticks, its memory and memory map,
and the inputs it is going to present. Everything is plain data; `10_state.md` R36 lets a run start from any value. -/

namespace Sys2Proof.Machine

/-- The two faults the engine raises, each with the opcode and the step being dispatched (`60_exceptions.md` R211).
Both are terminal (R212). Safe: the spec itself stops the machine there. -/
inductive EngineFault where
  /-- Raised by the dispatch: the opcode has no micro-program (`47_unimplemented.md` R200), or the step is not less than
  its declared length (R202). -/
  | unimplementedOpcode (opcode : Byte) (step : BitVec 3)
  /-- Raised by ADC and SBC when P.D = 1 (`41_alu.md` R126). -/
  | decimalModeUnsupported (opcode : Byte) (step : BitVec 3)
deriving DecidableEq, Repr

/-- Why a step stops. -/
inductive Fault where
  /-- An engine fault, raised by `tick`, and again by every later tick (`60_exceptions.md` R212). Safe: it is the spec's. -/
  | engine (f : EngineFault)
  /-- The host-level fault of a read cycle at an address no region maps, dummy reads and fetches included
  (`20_memory.md` R57, R58). Safe: it is the spec's. -/
  | unmappedRead (address : Word)
deriving DecidableEq, Repr

/-- Why an instruction is refused. -/
inductive Refusal where
  /-- An instruction with no meaning yet. No arm of `exec` answers this; nothing else may. Safe. -/
  | notModelled (mnemonic : String)
deriving DecidableEq, Repr

/-- `IR`: the opcode and the micro-step counter, packed as `opcode*8 + step` in the source (`10_state.md` R18), kept as
a pair (`90_conflicts.md` C8). -/
structure IR where
  opcode : Byte
  step   : BitVec 3
deriving DecidableEq, Repr

/-- The core: registers (`10_state.md` R10 to R14) and engine control state (R18 to R24). -/
structure Core where
  /-- Accumulator (R10). -/
  a  : Byte
  /-- Index register X (R11). -/
  x  : Byte
  /-- Index register Y (R11). -/
  y  : Byte
  /-- Stack pointer (R12). -/
  s  : Byte
  /-- Status register: C(0) Z(1) I(2) D(3) B(4) reserved(5) V(6) N(7) (R14). -/
  p  : Byte
  /-- Program counter (R13). -/
  pc : Word
  /-- Hidden address latch (R19). -/
  ad : Word
  /-- Instruction register (R18). -/
  ir : IR
  /-- Pending flags: IRQ(0) NMI(1) RESET(2) (R20). -/
  brkFlags : BitVec 3
  /-- IRQ delay pipeline (R21). -/
  irqPip : BitVec 16
  /-- NMI delay pipeline (R22). -/
  nmiPip : BitVec 16
  /-- Edge-detection snapshot; only its PHI2 and NMIB bits are ever read (R23; log 10). -/
  pinsPrev : Pins
  /-- The sticky mark of a faulted core (R24, `60_exceptions.md` R212). -/
  fault : Option EngineFault
deriving DecidableEq, Repr

/-- The control inputs the host presents with one rising edge (`20_memory.md` R57); true is the high level, which is the
inactive one for the pins whose names end in B (`10_state.md` R30). -/
structure Inputs where
  resb : Bool
  irqb : Bool
  nmib : Bool
  rdy  : Bool
deriving DecidableEq, Repr

/-- Every input inactive. -/
def Inputs.idle : Inputs := ⟨true, true, true, true⟩

/-- Memory contents: (address, byte) pairs, addresses strictly rising, no entry equal to what an unlisted address reads
as (`Memory.wf`). -/
abbrev Memory := List Host.Cell

/-- The system state of `20_memory.md` R57 with the two host parameters of a run, the memory map (`MEM`) and the input
schedule (`00_scope.md` R5, R7). -/
structure State where
  core : Core
  /-- The pin vector the host carries between ticks (`10_state.md` R31). -/
  pins : Pins
  mem  : Memory
  /-- The host's regions (`20_memory.md` R56). -/
  map  : List Region
  /-- The inputs of the coming ticks, next one first; past its end they are `Inputs.idle` (log 5). -/
  inputs : List Inputs
deriving DecidableEq, Repr

/-- The power-up core, for any value of the OPEN parameters `S_POWERUP` and `AD_POWERUP` (`10_state.md` R32). -/
def Core.powerUp (sPowerUp : Byte) (adPowerUp : Word) : Core :=
  { a := 0x00#8, x := 0x00#8, y := 0x00#8, s := sPowerUp, p := 0x02#8, pc := 0x0000#16, ad := adPowerUp,
    ir := ⟨0x00#8, 0#3⟩, brkFlags := 0#3, irqPip := 0#16, nmiPip := 0#16, pinsPrev := 0#64, fault := none }

/-- The reference system at power-up: the power-up core and pins = 0 (`20_memory.md` R57), with the host's memory, map
and schedule as parameters. -/
def State.powerUp (sPowerUp : Byte) (adPowerUp : Word) (mem : Memory) (map : List Region) (inputs : List Inputs) :
    State :=
  { core := Core.powerUp sPowerUp adPowerUp, pins := 0#64, mem := mem, map := map, inputs := inputs }

/-- The machine right after reset: the state `70_reset_and_hazards.md` R242 gives for the end of tick `r + 6` of a reset
from power-up with quiet lines, at the instruction boundary where the first program instruction starts.
S is `S_POWERUP - 3` with `S_POWERUP` = 0x00 (DESIGN CHOICE, log 1), the vector's content is 0x0000 because memory lists
nothing (DESIGN CHOICE, log 3), and the inactive input pins read 1 (log 4). `Tests/Slice0.lean` shows that seven system
cycles from power-up lead here. -/
def State.reset : State :=
  { core :=
      { a := 0x00#8, x := 0x00#8, y := 0x00#8, s := 0xFD#8, p := 0x16#8, pc := 0x0000#16, ad := 0x0000#16,
        ir := ⟨0x00#8, 7#3⟩, brkFlags := 0#3, irqPip := 0#16, nmiPip := 0#16,
        pinsPrev := 0x248000006A#64, fault := none },
    pins := 0x248000006A#64, mem := [], map := Config.referenceMap, inputs := [] }

end Sys2Proof.Machine
end

