-- ==== Sys2Proof/Machine/Pins.lean ====
section
/-! DEFINITION. The pin vector: bit numbers and masks (`10_state.md` R25), the ten Pin Bus operations
(`20_memory.md` R40 to R49), pure functions of bits (R50 (c)), and the bus cycle read off a vector (R52). Bits 63:40 pass
through every operation (R28). -/

namespace Sys2Proof.Machine

/-- The single-bit pins (`10_state.md` R25). -/
inductive Pin where
  | vpb | rdy | phi1o | irqb | mlb | nmib | sync | rwb | nc | be | phi2 | sob | phi2o | resb | vcc | gnd
deriving DecidableEq, Repr

/-- The bit number of a pin (`10_state.md` R25). -/
def Pin.bit : Pin → Nat
  | .vpb => 0 | .rdy => 1 | .phi1o => 2 | .irqb => 3 | .mlb => 4 | .nmib => 5 | .sync => 6
  | .rwb => 31 | .nc => 32 | .be => 33 | .phi2 => 34 | .sob => 35 | .phi2o => 36 | .resb => 37 | .vcc => 38 | .gnd => 39

/-- The one-bit mask of a pin (`10_state.md` R25). -/
def Pin.mask (n : Pin) : Pins := 1#64 <<< n.bit

/-- `pins.NAME`: the level of a pin (`00_scope.md` R37). -/
def pin (p : Pins) (n : Pin) : Bool := p.getLsbD n.bit

/-- `ADDR_MASK`: bits 22:7 (`20_memory.md`, section 1). -/
def addrMask : Pins := (BitVec.allOnes 16).setWidth 64 <<< 7

/-- `DATA_MASK`: bits 30:23 (`20_memory.md`, section 1). -/
def dataMask : Pins := (BitVec.allOnes 8).setWidth 64 <<< 23

/-- R40; the laws of R50 (a) and (b) hold of it (`PinCodecLaws`). -/
def setAddress (p : Pins) (a : Word) : Pins := (p &&& ~~~ addrMask) ||| (a.setWidth 64 <<< 7)

/-- R41; the laws of R50 (a) and (b) hold of it (`PinCodecLaws`). -/
def getAddress (p : Pins) : Word := (p >>> 7).setWidth 16

/-- R42; the laws of R50 (a) and (b) hold of it (`PinCodecLaws`). -/
def setData (p : Pins) (d : Byte) : Pins := (p &&& ~~~ dataMask) ||| (d.setWidth 64 <<< 23)

/-- R43; the laws of R50 (a) and (b) hold of it (`PinCodecLaws`). -/
def getData (p : Pins) : Byte := (p >>> 23).setWidth 8

/-- R44. -/
def setAddressAndData (p : Pins) (a : Word) (d : Byte) : Pins := setData (setAddress p a) d

/-- R45. -/
def enable (p mask : Pins) : Pins := p ||| mask

/-- R46. -/
def disable (p mask : Pins) : Pins := p &&& ~~~ mask

/-- R47. -/
def beginRead (p : Pins) : Pins := enable p Pin.rwb.mask

/-- R48. -/
def beginWrite (p : Pins) : Pins := disable p Pin.rwb.mask

/-- R49. -/
def beginFetch (p : Pins) (pc : Word) : Pins := enable (setAddress p pc) Pin.sync.mask

/-- Put a level on a pin: what the host does to its inputs (`20_memory.md` R57) and the engine to SYNC. -/
def drive (p : Pins) (n : Pin) (level : Bool) : Pins :=
  if level then enable p n.mask else disable p n.mask

/-- The vector of a rising-edge call: PHI2 = 1 and the four inputs (`20_memory.md` R57, `70_reset_and_hazards.md` R246 H3). -/
def presentInputs (p : Pins) (i : Inputs) : Pins :=
  drive (drive (drive (drive (drive p .phi2 true) .resb i.resb) .irqb i.irqb) .nmib i.nmib) .rdy i.rdy

/-- The bus cycle of a tick: the tuple (address, RWB, data, SYNC) (`20_memory.md` R52). -/
structure BusCycle where
  address : Word
  read    : Bool
  data    : Byte
  sync    : Bool
deriving DecidableEq, Repr

/-- The bus cycle read off a vector (`20_memory.md` R52). -/
def busCycle (p : Pins) : BusCycle := ⟨getAddress p, pin p .rwb, getData p, pin p .sync⟩

end Sys2Proof.Machine
end

