-- ==== Sys2Proof/Machine/Memory.lean ====
section
/-! DEFINITION. The memory collaborator of the reference system (`20_memory.md` R55 to R58): contents in one canonical
form, the map's regions, and the host's service of one bus cycle (`70_reset_and_hazards.md` R246 H4). -/

namespace Sys2Proof.Machine

/-- The canonical form: addresses strictly rising and inside the 64 KB space, no entry equal to what an unlisted address
reads as. `lowest` is the least address an entry may have. -/
def Memory.wfFrom (lowest : Nat) : Memory → Bool
  | [] => true
  | (k, b) :: rest =>
    decide (lowest ≤ k) && decide (k < 65536) && decide (b ≠ Config.unlistedByte) && Memory.wfFrom (k + 1) rest

/-- The canonical form of a whole memory. -/
def Memory.wf (m : Memory) : Bool := Memory.wfFrom 0 m

/-- The byte stored at an address; an unlisted address reads as `Config.unlistedByte` (log 3). -/
def Memory.read : Memory → Nat → Byte
  | [], _ => Config.unlistedByte
  | (k, b) :: rest, a => if k = a then b else Memory.read rest a

/-- Store a byte, keeping the canonical form: writing `Config.unlistedByte` removes the entry. -/
def Memory.write : Memory → Nat → Byte → Memory
  | [], a, v => if v = Config.unlistedByte then [] else [(a, v)]
  | (k, b) :: rest, a, v =>
    if a < k then (if v = Config.unlistedByte then (k, b) :: rest else (a, v) :: (k, b) :: rest)
    else if a = k then (if v = Config.unlistedByte then rest else (a, v) :: rest)
    else (k, b) :: Memory.write rest a v

/-- The region holds the address. -/
def Region.holds (r : Region) (a : Word) : Bool := decide (r.base ≤ a.toNat) && decide (a.toNat ≤ r.limit)

/-- What the map has at an address: the first region that holds it, none if it is unmapped (`20_memory.md` R56, R58). -/
def kindAt (map : List Region) (a : Word) : Option RegionKind := (map.find? (fun r => Region.holds r a)).map Region.kind

/-- `read(address)` of the collaborator: none at an unmapped address (`20_memory.md` R55, R58). -/
def State.readByte (s : State) (a : Word) : Option Byte :=
  if (kindAt s.map a).isSome then some (s.mem.read a.toNat) else none

/-- `write(address, value)` of the collaborator: dropped at a ROM or unmapped address (`20_memory.md` R55, R58). -/
def State.writeByte (s : State) (a : Word) (v : Byte) : State :=
  if kindAt s.map a = some .ram then { s with mem := s.mem.write a.toNat v } else s

/-- A step's outcome. -/
abbrev Result := Host.Outcome State Fault Refusal

/-- A read cycle at `a` and what is done with its byte; an unmapped address ends the run (`20_memory.md` R58). -/
def State.readThen (s : State) (a : Word) (k : Byte → Result) : Result :=
  match s.readByte a with
  | some v => k v
  | none => .fault (.unmappedRead a)

/-- The host serves the bus cycle on its pins: on a read it puts the byte on the data pins, on a write it stores the
data pins' byte (`20_memory.md` R53, R54, R57). -/
def State.serve (s : State) : Result :=
  if pin s.pins .rwb then s.readThen (getAddress s.pins) fun v => .next { s with pins := setData s.pins v }
  else .next (s.writeByte (getAddress s.pins) (getData s.pins))

end Sys2Proof.Machine
end

