-- ==== Sys2Proof/Machine/Flags.lean ====
section
/-! DEFINITION. The status register's bits (`10_state.md` R14) and the ALU and flag helpers (`41_alu.md` R120 to R128).
Each helper is a function of the values it is called with, so a source that is also the destination is read before it is
written (R129 h). The micro-programs under `tick` and the instruction-level meanings under `exec` call the same helpers. -/

namespace Sys2Proof.Machine

/-- The bits of P (`10_state.md` R14); `r` is the reserved bit 5 (R16). -/
inductive Flag where
  | c | z | i | d | b | r | v | n
deriving DecidableEq, Repr

/-- The bit number of a flag (`10_state.md` R14). -/
def Flag.bit : Flag → Nat
  | .c => 0 | .z => 1 | .i => 2 | .d => 3 | .b => 4 | .r => 5 | .v => 6 | .n => 7

/-- `P.f` (`00_scope.md` R37). -/
def flag (p : Byte) (f : Flag) : Bool := p.getLsbD f.bit

/-- `P.f <- value`. -/
def setFlag (p : Byte) (f : Flag) (value : Bool) : Byte :=
  if value then p ||| (1#8 <<< f.bit) else p &&& ~~~ (1#8 <<< f.bit)

/-- `set_nz(v)` (R120). -/
def setNz (v p : Byte) : Byte := setFlag (setFlag p .z (decide (v = 0#8))) .n (v.getLsbD 7)

/-- `compare(r, v)` on P (R121): C iff no borrow, N and Z from the truncated difference. -/
def compareFlags (r v p : Byte) : Byte := setNz (r - v) (setFlag p .c (decide (v.toNat ≤ r.toNat)))

/-- The sum of R122 before it is truncated, 0 to 511. -/
def adcSum (a v p : Byte) : Nat := a.toNat + v.toNat + (flag p .c).toNat

/-- `adc(v)` in binary mode (R122): the new A and P. -/
def adc (a v p : Byte) : Byte × Byte :=
  let t := adcSum a v p
  let r := BitVec.ofNat 8 t
  let p := setFlag p .v (decide (~~~ (a ^^^ v) &&& (a ^^^ r) &&& 0x80#8 ≠ 0#8))
  let p := setFlag p .c (decide (0xFF < t))
  (r, setNz r p)

/-- The difference of R123 before it is truncated, -256 to 255. -/
def sbcDiff (a v p : Byte) : Int := (a.toNat : Int) - (v.toNat : Int) - (1 - ((flag p .c).toNat : Int))

/-- `sbc(v)` in binary mode (R123): the new A and P. -/
def sbc (a v p : Byte) : Byte × Byte :=
  let t := sbcDiff a v p
  let r := BitVec.ofInt 8 t
  let p := setFlag p .v (decide ((a ^^^ v) &&& (a ^^^ r) &&& 0x80#8 ≠ 0#8))
  let p := setFlag p .c (decide (0 ≤ t))
  (r, setNz r p)

/-- `asl(v)` (R124): the result and the new P. -/
def asl (v p : Byte) : Byte × Byte :=
  let r := v <<< 1
  (r, setNz r (setFlag p .c (v.getLsbD 7)))

/-- `lsr(v)` (R125). -/
def lsr (v p : Byte) : Byte × Byte :=
  let r := v >>> 1
  (r, setNz r (setFlag p .c (v.getLsbD 0)))

/-- `rol(v)` (R127): the old carry enters at bit 0. -/
def rol (v p : Byte) : Byte × Byte :=
  let r := (v <<< 1) ||| (BitVec.ofBool (flag p .c)).setWidth 8
  (r, setNz r (setFlag p .c (v.getLsbD 7)))

/-- `ror(v)` (R128): the old carry enters at bit 7. -/
def ror (v p : Byte) : Byte × Byte :=
  let r := (v >>> 1) ||| ((BitVec.ofBool (flag p .c)).setWidth 8 <<< 7)
  (r, setNz r (setFlag p .c (v.getLsbD 0)))

/-- What a read instruction does with A, P and its operand byte: the new A and P, or none where it raises
`DecimalModeUnsupported` (R126). -/
abbrev ReadOp := Byte → Byte → Byte → Option (Byte × Byte)

/-- What a shift does with its operand and P: the result and the new P. -/
abbrev ShiftOp := Byte → Byte → Byte × Byte

/-- LDA: `A <- v; set_nz(v)` (`42_load_store.md` R130, R131). -/
def opLda : ReadOp := fun _ p v => some (v, setNz v p)

/-- ORA: `A <- A | v; set_nz(A)` (`43_logic_arith.md` R140, R141). -/
def opOra : ReadOp := fun a p v => some (a ||| v, setNz (a ||| v) p)

/-- AND: `A <- A & v; set_nz(A)` (`43_logic_arith.md` R142, R143). -/
def opAnd : ReadOp := fun a p v => some (a &&& v, setNz (a &&& v) p)

/-- EOR: `A <- A ^ v; set_nz(A)` (`43_logic_arith.md` R144, R145). -/
def opEor : ReadOp := fun a p v => some (a ^^^ v, setNz (a ^^^ v) p)

/-- ADC: `adc(v)`, which faults when P.D = 1 (`43_logic_arith.md` R146, R147; R126). -/
def opAdc : ReadOp := fun a p v => if flag p .d then none else some (adc a v p)

/-- SBC: `sbc(v)`, which faults when P.D = 1 (`43_logic_arith.md` R148, R149; R126). -/
def opSbc : ReadOp := fun a p v => if flag p .d then none else some (sbc a v p)

/-- CMP: `compare(A, v)`, A unchanged (`43_logic_arith.md` R150, R151). -/
def opCmp : ReadOp := fun a p v => some (a, compareFlags a v p)

end Sys2Proof.Machine
end

