-- ==== Sys2Proof/Machine/Engine.lean ====
section
/-! DEFINITION. The phases of a tick (`40_engine.md` R92 to R103), as functions of the core and the vector; phase 4's
micro-programs, and `tick` itself, are in MicroPrograms.lean. -/

namespace Sys2Proof.Machine

/-- The bits of `BRK_FLAGS` (`10_state.md` R20). -/
def irqFlag : BitVec 3 := 1#3
/-- See `irqFlag`. -/
def nmiFlag : BitVec 3 := 2#3
/-- See `irqFlag`. -/
def resetFlag : BitVec 3 := 4#3

/-- Phase 1, NMI edge detector: bit 0 is set when NMIB was high at the last tick and is low now (R93). -/
def sampleNmi (before now : Bool) (pip : BitVec 16) : BitVec 16 := if before && !now then pip ||| 1#16 else pip

/-- Phase 1, IRQ level detector: bit 0 is set when IRQB is low and P.I is clear (R94). -/
def sampleIrq (iFlag level : Bool) (pip : BitVec 16) : BitVec 16 := if !level && !iFlag then pip ||| 1#16 else pip

/-- What a SYNC tick keeps of a pipeline: the samples too young to be recognised (R97). -/
def keepYoung (pip : BitVec 16) : BitVec 16 := pip &&& 0x0003#16

/-- Phase 6: one place toward bit 15 (R102). -/
def agePip (pip : BitVec 16) : BitVec 16 := pip <<< 1

/-- The pending flags after recognition: IRQ from bit 2 of its pipeline, NMI from bits 15:2 of its own (R97). -/
def recognised (flags : BitVec 3) (irqPip nmiPip : BitVec 16) : BitVec 3 :=
  let flags := if irqPip &&& 0x0004#16 ≠ 0#16 then flags ||| irqFlag else flags
  if nmiPip &&& 0xFFFC#16 ≠ 0#16 then flags ||| nmiFlag else flags

/-- Phase 1, the two interrupt detectors (R93, R94). -/
def Core.detect (c : Core) (p : Pins) : Core :=
  { c with
    nmiPip := sampleNmi (pin c.pinsPrev .nmib) (pin p .nmib) c.nmiPip,
    irqPip := sampleIrq (flag c.p .i) (pin p .irqb) c.irqPip }

/-- `IR <- 0 ; P.B <- 0`: redirect into the BRK sequence (R95, R98). -/
def Core.redirect (c : Core) : Core := { c with ir := ⟨0x00#8, 0#3⟩, p := setFlag c.p .b false }

/-- Phase 1, RESB detector (R95). -/
def Core.detectReset (c : Core) (p : Pins) : Core :=
  if pin p .resb then c else { c with brkFlags := c.brkFlags ||| resetFlag }.redirect

/-- Phase 2, opcode latch: `IR <- opcode << 3` (R96). -/
def Core.latch (c : Core) (p : Pins) : Core := { c with ir := ⟨getData p, 0#3⟩ }

/-- Phase 2, recognition: set the pending flags, keep the young samples (R97). -/
def Core.recognise (c : Core) : Core :=
  { c with
    brkFlags := recognised c.brkFlags c.irqPip c.nmiPip,
    irqPip := keepYoung c.irqPip, nmiPip := keepYoung c.nmiPip }

/-- Phase 2, hijack or advance (R98). -/
def Core.hijackOrAdvance (c : Core) : Core :=
  if c.brkFlags ≠ 0#3 then c.redirect else { c with pc := c.pc + 1#16 }

/-- Phases 1 to 3 on the core: control sampling, and at a SYNC tick the opcode latch, recognition, hijack or advance
(R92, R93 to R98). R111's outer gate changes nothing and is left out. -/
def Core.beforeDispatch (c : Core) (p : Pins) : Core :=
  let c := (c.detect p).detectReset p
  if pin p .sync then ((c.latch p).recognise).hijackOrAdvance else c

/-- Phases 2 and 3 on the pins: SYNC is cleared, the default direction is read (R96, R99). -/
def pinsBeforeDispatch (p : Pins) : Pins := beginRead (drive p .sync false)

/-- Phases 5 to 7 after a micro-step that did not fault: step counter, pipeline ageing, snapshot (R101 to R103). -/
def Core.afterDispatch (c : Core) (p : Pins) : Core :=
  { c with
    ir := ⟨c.ir.opcode, c.ir.step + 1#3⟩,
    irqPip := agePip c.irqPip, nmiPip := agePip c.nmiPip, pinsPrev := p }

/-- One micro-step: the register transfers and the bus cycle of one tick. `GD()` is `getData` of the vector it is given
(`40_engine.md` R104). -/
abbrev MicroStep := Core → Pins → Except EngineFault (Core × Pins)

/-- `0x0100 | S` (`10_state.md` R12). -/
def Core.stackAddress (c : Core) : Word := Config.stackPage ||| c.s.setWidth 16

/-- The step that ends a micro-program: `FETCH()` with PC as it stands (`40_engine.md` R104). -/
def fetchStep : MicroStep := fun c p => .ok (c, beginFetch p c.pc)

/-- `SA(PC)`: a read at PC, discarded (templates IMP and ACC step 0, BRK step 0: R105, R106, R221). -/
def dummyReadStep : MicroStep := fun c p => .ok (c, setAddress p c.pc)

/-- `SA(PC++)` (step 0 of IMM, ABS, JMP, JSR: R107 to R110). -/
def operandStep : MicroStep := fun c p => .ok ({ c with pc := c.pc + 1#16 }, setAddress p c.pc)

/-- `SA(PC++); AD <- zext_16(GD())` (step 1 of ABS and JMP: R108 to R110, R170). -/
def operandHighStep : MicroStep := fun c p =>
  .ok ({ c with pc := c.pc + 1#16, ad := (getData p).setWidth 16 }, setAddress p c.pc)

/-- `(GD() << 8) | AD[7:0]`. -/
def Core.assembled (c : Core) (p : Pins) : Word := join (getData p) (lo c.ad)

/-- `AD <- (GD() << 8) | AD[7:0]; SA(AD)` (step 2 of ABS-R and ABS-RMW: R108, R110). -/
def readEffectiveStep : MicroStep := fun c p =>
  .ok ({ c with ad := c.assembled p }, setAddress p (c.assembled p))

/-- `AD <- (GD() << 8) | AD[7:0]; SAD(AD, A); WR()` (step 2 of STA: R109, R132). -/
def storeAccumulatorStep : MicroStep := fun c p =>
  .ok ({ c with ad := c.assembled p }, beginWrite (setAddressAndData p (c.assembled p) c.a))

/-- `exec(GD()); FETCH()` for an instruction that combines its operand with A and P (last step of IMM and ABS-R: R107,
R108); it faults, changing nothing, where the operation does (`41_alu.md` R126, R112). -/
def executeReadStep (op : ReadOp) : MicroStep := fun c p =>
  match op c.a c.p (getData p) with
  | some (a, p') => .ok ({ c with a := a, p := p' }, beginFetch p c.pc)
  | none => .error (.decimalModeUnsupported c.ir.opcode c.ir.step)

/-- `P.f <- value; FETCH()` (step 1 of the flag instructions: R105, `46_flag_system.md`). -/
def executeFlagStep (f : Flag) (value : Bool) : MicroStep := fun c p =>
  .ok ({ c with p := setFlag c.p f value }, beginFetch p c.pc)

/-- `A <- op(A); FETCH()` (step 1 of the accumulator shifts: R106). -/
def executeAccumulatorStep (op : ShiftOp) : MicroStep := fun c p =>
  let (r, p') := op c.a c.p
  .ok ({ c with a := r, p := p' }, beginFetch p c.pc)

/-- `AD <- zext_16(GD()); WR()`: the dummy write, address and data pins as they are (step 3 of ABS-RMW: R110). -/
def dummyWriteStep : MicroStep := fun c p =>
  .ok ({ c with ad := (getData p).setWidth 16 }, beginWrite p)

/-- `SD(op(AD[7:0])); WR()` (step 4 of ABS-RMW: R110). -/
def modifyStep (op : ShiftOp) : MicroStep := fun c p =>
  let (r, p') := op (lo c.ad) c.p
  .ok ({ c with p := p' }, beginWrite (setData p r))

/-- `PC <- (GD() << 8) | AD[7:0]; FETCH()` (last step of JMP, JSR and the BRK sequence: R170, R171, R227). -/
def jumpStep : MicroStep := fun c p =>
  .ok ({ c with pc := c.assembled p }, beginFetch p (c.assembled p))

/-- `SA(0x0100 | S); AD <- zext_16(GD())` (step 1 of JSR: R171). -/
def peekStackStep : MicroStep := fun c p =>
  .ok ({ c with ad := (getData p).setWidth 16 }, setAddress p c.stackAddress)

/-- `SAD(0x0100 | S--, v)`, and `WR()` unless the write is suppressed (R171, R222 to R224). -/
def pushVector (c : Core) (p : Pins) (v : Byte) (suppressed : Bool) : Pins :=
  let p := setAddressAndData p c.stackAddress v
  if suppressed then p else beginWrite p

/-- Steps 2 and 3 of JSR: push a byte of PC (R171). -/
def pushStep (byteOf : Word → Byte) : MicroStep := fun c p =>
  .ok ({ c with s := c.s - 1#8 }, pushVector c p (byteOf c.pc) false)

/-- RESET is pending: the pushes of the BRK sequence are reads (R222 to R224). -/
def resetPending (flags : BitVec 3) : Bool := decide (flags &&& resetFlag ≠ 0#3)

/-- The vector address of a BRK sequence: RESET over NMI over IRQ or BRK (R218, R224). -/
def vectorFor (flags : BitVec 3) : Word :=
  if flags &&& resetFlag ≠ 0#3 then Config.resetVector
  else if flags &&& nmiFlag ≠ 0#3 then Config.nmiVector
  else Config.irqVector

/-- PC as step 1 of the BRK sequence pushes it: incremented unless IRQ or NMI is pending (R222). -/
def returnAddress (flags : BitVec 3) (pc : Word) : Word :=
  if flags &&& (irqFlag ||| nmiFlag) = 0#3 then pc + 1#16 else pc

/-- The status byte a BRK sequence pushes: `P | 0x20` (R224). -/
def pushedStatus (p : Byte) : Byte := p ||| 0x20#8

/-- `P.I <- 1; P.B <- 1` (R225). -/
def maskedStatus (p : Byte) : Byte := setFlag (setFlag p .i true) .b true

/-- Step 1 of the BRK sequence (R222). -/
def brkPushHighStep : MicroStep := fun c p =>
  let pc := returnAddress c.brkFlags c.pc
  .ok ({ c with pc := pc, s := c.s - 1#8 }, pushVector c p (hi pc) (resetPending c.brkFlags))

/-- Step 2 of the BRK sequence (R223). -/
def brkPushLowStep : MicroStep := fun c p =>
  .ok ({ c with s := c.s - 1#8 }, pushVector c p (lo c.pc) (resetPending c.brkFlags))

/-- Step 3 of the BRK sequence (R224). -/
def brkPushStatusStep : MicroStep := fun c p =>
  .ok ({ c with s := c.s - 1#8, ad := vectorFor c.brkFlags },
    pushVector c p (pushedStatus c.p) (resetPending c.brkFlags))

/-- Step 4 of the BRK sequence (R225). -/
def brkVectorLowStep : MicroStep := fun c p =>
  .ok ({ c with ad := c.ad + 1#16, p := maskedStatus c.p, brkFlags := 0#3 }, setAddress p c.ad)

/-- Step 5 of the BRK sequence (R226). -/
def brkVectorHighStep : MicroStep := fun c p =>
  .ok ({ c with ad := (getData p).setWidth 16 }, setAddress p c.ad)

end Sys2Proof.Machine
end

