-- ==== Sys2Proof/Machine/MicroPrograms.lean ====
section
/-! DEFINITION. The micro-program of each of the 33 admitted opcodes, an ordered list of micro-steps whose length is the
instruction's declared length (`40_engine.md` R100), built from the templates of R105 to R110 and the step tables of
`45_jump.md` R170, R171 and `60_exceptions.md` R221 to R227. -/

namespace Sys2Proof.Machine

/-- Template IMP (R105). -/
def impProgram (f : Flag) (value : Bool) : List MicroStep := [dummyReadStep, executeFlagStep f value]

/-- Template ACC (R106). -/
def accProgram (op : ShiftOp) : List MicroStep := [dummyReadStep, executeAccumulatorStep op]

/-- Template IMM (R107). -/
def immProgram (op : ReadOp) : List MicroStep := [operandStep, executeReadStep op]

/-- Template ABS-R (R108). -/
def absReadProgram (op : ReadOp) : List MicroStep :=
  [operandStep, operandHighStep, readEffectiveStep, executeReadStep op]

/-- Template ABS-W (R109), used by STA. -/
def absWriteProgram : List MicroStep := [operandStep, operandHighStep, storeAccumulatorStep, fetchStep]

/-- Template ABS-RMW (R110). -/
def absModifyProgram (op : ShiftOp) : List MicroStep :=
  [operandStep, operandHighStep, readEffectiveStep, dummyWriteStep, modifyStep op, fetchStep]

/-- JMP absolute (`45_jump.md` R170). -/
def jmpProgram : List MicroStep := [operandStep, operandHighStep, jumpStep]

/-- JSR absolute (`45_jump.md` R171). -/
def jsrProgram : List MicroStep := [operandStep, peekStackStep, pushStep hi, pushStep lo, dummyReadStep, jumpStep]

/-- The BRK sequence (`60_exceptions.md` R220 to R227). -/
def brkProgram : List MicroStep :=
  [dummyReadStep, brkPushHighStep, brkPushLowStep, brkPushStatusStep, brkVectorLowStep, brkVectorHighStep, jumpStep]

/-- The admitted opcodes and their micro-programs, by opcode value (`30_encoding.md` R77). -/
def programTable : List (Byte × List MicroStep) :=
  [(0x00#8, brkProgram),
   (0x09#8, immProgram opOra), (0x0A#8, accProgram asl), (0x0D#8, absReadProgram opOra), (0x0E#8, absModifyProgram asl),
   (0x18#8, impProgram .c false), (0x20#8, jsrProgram),
   (0x29#8, immProgram opAnd), (0x2A#8, accProgram rol), (0x2D#8, absReadProgram opAnd), (0x2E#8, absModifyProgram rol),
   (0x38#8, impProgram .c true),
   (0x49#8, immProgram opEor), (0x4A#8, accProgram lsr), (0x4C#8, jmpProgram), (0x4D#8, absReadProgram opEor),
   (0x4E#8, absModifyProgram lsr),
   (0x58#8, impProgram .i false),
   (0x69#8, immProgram opAdc), (0x6A#8, accProgram ror), (0x6D#8, absReadProgram opAdc), (0x6E#8, absModifyProgram ror),
   (0x78#8, impProgram .i true),
   (0x8D#8, absWriteProgram),
   (0xA9#8, immProgram opLda), (0xAD#8, absReadProgram opLda),
   (0xB8#8, impProgram .v false),
   (0xC9#8, immProgram opCmp), (0xCD#8, absReadProgram opCmp),
   (0xD8#8, impProgram .d false),
   (0xE9#8, immProgram opSbc), (0xED#8, absReadProgram opSbc),
   (0xF8#8, impProgram .d true)]

/-- The micro-program of an opcode, none if it is not admitted (`40_engine.md` R100, `47_unimplemented.md` R200). -/
def microProgram (op : Byte) : Option (List MicroStep) := programTable.lookup op

/-- Phase 4, dispatch (`40_engine.md` R100): the step of the micro-program IR selects; an opcode without one, or a step
at or past the declared length, raises `UnimplementedOpcode` (`47_unimplemented.md` R200, R202). -/
def dispatch (c : Core) (p : Pins) : Except EngineFault (Core × Pins) :=
  match microProgram c.ir.opcode with
  | none => .error (.unimplementedOpcode c.ir.opcode c.ir.step)
  | some program =>
    match program[c.ir.step.toNat]? with
    | none => .error (.unimplementedOpcode c.ir.opcode c.ir.step)
    | some microStep => microStep c p

/-- What a call of `tick` gives: the core and the vector it returns, or the fault it raises and the dead core it leaves
behind, which stays inspectable (`60_exceptions.md` R212). -/
inductive TickResult where
  | returned (core : Core) (pins : Pins)
  | raised (fault : EngineFault) (core : Core)
deriving DecidableEq, Repr

/-- An engine tick: the phases of `40_engine.md` R92 in order. A fault in phase 4 ends it there: phases 1 to 3 have taken
effect on the core, the micro-step and phases 5 to 7 have not, and the mark is set (R112). -/
def tickEdge (c : Core) (p : Pins) : TickResult :=
  let c := c.beforeDispatch p
  match dispatch c (pinsBeforeDispatch p) with
  | .ok (c', p') => .returned (c'.afterDispatch p') p'
  | .error f => .raised f { c with fault := some f }

/-- The call is a rising-edge call (`40_engine.md` R90). -/
def risingEdge (c : Core) (p : Pins) : Bool := !pin c.pinsPrev .phi2 && pin p .phi2

/-- `tick(pins) -> pins`, the public contract of the engine (`40_engine.md` R90, R91), total over every core and every
vector. A dead core raises its fault again and does not change (`60_exceptions.md` R212). -/
def tick (c : Core) (p : Pins) : TickResult :=
  match c.fault with
  | some f => .raised f c
  | none =>
    if risingEdge c p then tickEdge c p
    else .returned { c with pinsPrev := drive c.pinsPrev .phi2 (pin p .phi2) } p

end Sys2Proof.Machine
end

