-- ==== Sys2Proof/Machine/System.lean ====
section
/-! DEFINITION. The reference system (`20_memory.md` R57): one system cycle, several of them, and the trace of their bus
cycles (R52). This is the level at which everything normative of the spec is stated (`00_scope.md` R2). -/

namespace Sys2Proof.Machine

/-- The inputs the host presents with the next rising edge. -/
def State.nextInputs (s : State) : Inputs := s.inputs.headD Inputs.idle

/-- One system cycle of `20_memory.md` R57: the PHI2-low call, the rising-edge call with the next inputs, and the host's
service of the bus cycle the tick issued. -/
def State.cycle (s : State) : Result :=
  match tick s.core (drive s.pins .phi2 false) with
  | .raised f _ => .fault (.engine f)
  | .returned c p =>
    match tick c (presentInputs p s.nextInputs) with
    | .raised f _ => .fault (.engine f)
    | .returned c' p' => ({ s with core := c', pins := p', inputs := s.inputs.tail } : State).serve

/-- The core a system cycle leaves, a faulting one included: the state that stays inspectable (`60_exceptions.md` R212). -/
def State.coreAfterCycle (s : State) : Core :=
  match tick s.core (drive s.pins .phi2 false) with
  | .raised _ c => c
  | .returned c p =>
    match tick c (presentInputs p s.nextInputs) with
    | .raised _ c' => c'
    | .returned c' _ => c'

/-- `n` system cycles, stopping at the first fault. -/
def State.cycles : Nat → State → Result
  | 0, s => .next s
  | n + 1, s =>
    match s.cycle with
    | .next s' => State.cycles n s'
    | .fault f => .fault f
    | .refused r => .refused r

/-- The bus cycles of the next `n` system cycles in order, each taken after the memory has answered (`20_memory.md` R52,
R57); it ends early where a cycle faults. -/
def State.trace : Nat → State → List BusCycle
  | 0, _ => []
  | n + 1, s =>
    match s.cycle with
    | .next s' => busCycle s'.pins :: State.trace n s'
    | _ => []

end Sys2Proof.Machine
end

