-- ==== Sys2Proof/Machine/Ops.lean ====
section
/-! DEFINITION. The shared operations of the instruction-level meanings (`40_engine.md` R113): what the ticks of an
instruction do besides its own effect (the interrupt detectors and the pipelines, R93, R94, R97, R102), the fetch every
instruction ends with, the push, and TAKING AN EXCEPTION: the BRK sequence that BRK, IRQ, NMI and reset share
(`60_exceptions.md` R220 to R228). There is no return from it (R231): no admitted opcode pulls from the stack.

These operations are used for ticks at which RESB is high; a tick with RESB low is always run as a system cycle
(Boundary.lean). -/

namespace Sys2Proof.Machine

/-- What one tick with RESB high does to the pipelines, the snapshot's NMIB and the input pins, whatever its micro-step
is: the host presents the next inputs, the detectors sample them, a SYNC tick keeps the young samples, and both pipelines
age (`40_engine.md` R93, R94, R97, R102, R103; `20_memory.md` R57). -/
def State.passTick (sync : Bool) (s : State) : State :=
  let i := s.nextInputs
  let nmi := sampleNmi (pin s.core.pinsPrev .nmib) i.nmib s.core.nmiPip
  let irq := sampleIrq (flag s.core.p .i) i.irqb s.core.irqPip
  { s with
    core :=
      { s.core with
        nmiPip := agePip (if sync then keepYoung nmi else nmi),
        irqPip := agePip (if sync then keepYoung irq else irq),
        pinsPrev := drive s.core.pinsPrev .nmib i.nmib },
    pins := presentInputs s.pins i,
    inputs := s.inputs.tail }

/-- `n` ticks that are not SYNC ticks. -/
def State.passTicks : Nat → State → State
  | 0, s => s
  | n + 1, s => State.passTicks n (s.passTick false)

/-- The `n` ticks of an instruction, the first of which is its SYNC tick (`n` at least 1). -/
def State.instrTicks (n : Nat) (s : State) : State := (s.passTick true).passTicks (n - 1)

/-- The end of every instruction: `FETCH()` at the new PC, IR at the declared length, the snapshot, and the host's answer
with the next opcode (`40_engine.md` R101, R103, R104; `10_state.md` R13). `bus` is the byte the data pins carry into that
last tick: the byte of the previous bus cycle. -/
def State.fetchNext (s : State) (opcode : Byte) (len : BitVec 3) (bus : Byte) : Result :=
  let out := beginFetch (beginRead (setData s.pins bus)) s.core.pc
  ({ s with core := { s.core with ir := ⟨opcode, len⟩, pinsPrev := out }, pins := out } : State).serve

/-- Write at `0x0100 | S`, then decrement S (`10_state.md` R12). -/
def State.push (s : State) (v : Byte) : State :=
  let s' := s.writeByte s.core.stackAddress v
  { s' with core := { s'.core with s := s'.core.s - 1#8 } }

/-- A push of the BRK sequence: a write, or for a reset a read at the same address, discarded; S is decremented either
way (`60_exceptions.md` R222 to R224). -/
def State.pushOrRead (s : State) (reset : Bool) (v : Byte) (k : State → Result) : Result :=
  if reset then
    s.readThen s.core.stackAddress fun _ => k { s with core := { s.core with s := s.core.s - 1#8 } }
  else k (s.push v)

/-- Steps 1 to 6 of the BRK sequence, for the pending flags `flags` (0 for a BRK instruction), from the state after its
step 0 (`60_exceptions.md` R222 to R228): the return address and the status are pushed (read back for a reset), I and B
are set and the flags cleared, and PC is loaded from the vector. Steps 5 and 6 sample IRQB with I already set. -/
def State.brkSequence (s : State) (flags : BitVec 3) : Result :=
  let reset := resetPending flags
  let s := s.passTicks 4
  let ret := returnAddress flags s.core.pc
  s.pushOrRead reset (hi ret) fun s =>
  s.pushOrRead reset (lo ret) fun s =>
  s.pushOrRead reset (pushedStatus s.core.p) fun s =>
  s.readThen (vectorFor flags) fun l =>
    let s := ({ s with core := { s.core with p := maskedStatus s.core.p, brkFlags := 0#3 } } : State).passTicks 2
    s.readThen (vectorFor flags + 1#16) fun h =>
      ({ s with core := { s.core with pc := join h l, ad := l.setWidth 16 } } : State).fetchNext 0x00#8 7#3 h

/-- An interrupt taken at a SYNC tick (`60_exceptions.md` R219): the fetched opcode is discarded, B is cleared, PC keeps
its address, step 0 reads there again (R221), and the BRK sequence runs for the flags recognised at that tick (R97, R98). -/
def State.takeInterrupt (s : State) : Result :=
  let flags := recognised s.core.brkFlags s.core.irqPip s.core.nmiPip
  let s := s.passTick true
  let s : State := { s with core := { s.core with p := setFlag s.core.p .b false, brkFlags := flags } }
  s.readThen s.core.pc fun _ => s.brkSequence flags

end Sys2Proof.Machine
end

