-- ==== Sys2Proof/Machine/Operands.lean ====
section
/-! DEFINITION. The operand forms at instruction level: what an instruction of each template does as a whole
(`40_engine.md` R105 to R110, R113), over the operation its own rule names. `s` is the state in which the instruction
starts: PC is the address of its opcode. Memory is accessed in the order of the step table. -/

namespace Sys2Proof.Machine

/-- The address of byte `k` of the instruction (`30_encoding.md` R70): wraps mod 65536. -/
def State.byteAddress (s : State) (k : Word) : Word := s.core.pc + k

/-- Template IMM (R107): combine A, P and `imm8`. -/
def immediate (opcode : Byte) (op : ReadOp) (v : Byte) (s : State) : Result :=
  let s := s.instrTicks 2
  match op s.core.a s.core.p v with
  | some (a, p) =>
    ({ s with core := { s.core with a := a, p := p, pc := s.byteAddress 2#16 } } : State).fetchNext opcode 2#3 v
  | none => .fault (.engine (.decimalModeUnsupported opcode 1#3))

/-- Template ABS-R (R108): combine A, P and the byte at `addr16`. -/
def absoluteRead (opcode : Byte) (op : ReadOp) (addr : Word) (s : State) : Result :=
  let s := s.instrTicks 4
  s.readThen addr fun v =>
    match op s.core.a s.core.p v with
    | some (a, p) =>
      ({ s with core := { s.core with a := a, p := p, ad := addr, pc := s.byteAddress 3#16 } } : State).fetchNext
        opcode 4#3 v
    | none => .fault (.engine (.decimalModeUnsupported opcode 3#3))

/-- Template ABS-W (R109): store a register at `addr16`; the location is not read. -/
def absoluteWrite (opcode : Byte) (v : Byte) (addr : Word) (s : State) : Result :=
  let s := s.instrTicks 4
  let s := s.writeByte addr v
  ({ s with core := { s.core with ad := addr, pc := s.byteAddress 3#16 } } : State).fetchNext opcode 4#3 v

/-- Template ABS-RMW (R110): read the byte at `addr16`, write it back unmodified, write the result. AD ends with the byte
read. -/
def absoluteModify (opcode : Byte) (op : ShiftOp) (addr : Word) (s : State) : Result :=
  let s := s.instrTicks 6
  s.readThen addr fun m =>
    let (r, p) := op m s.core.p
    let s := (s.writeByte addr m).writeByte addr r
    ({ s with core := { s.core with p := p, ad := m.setWidth 16, pc := s.byteAddress 3#16 } } : State).fetchNext
      opcode 6#3 r

/-- Template ACC (R106): the operand and the destination are A; the byte after the opcode is read and discarded. -/
def accumulator (opcode : Byte) (op : ShiftOp) (s : State) : Result :=
  let s := s.instrTicks 2
  s.readThen (s.byteAddress 1#16) fun d =>
    let (r, p) := op s.core.a s.core.p
    ({ s with core := { s.core with a := r, p := p, pc := s.byteAddress 1#16 } } : State).fetchNext opcode 2#3 d

/-- Template IMP (R105) with `P.f <- value`; the byte after the opcode is read and discarded. -/
def impliedFlag (opcode : Byte) (f : Flag) (value : Bool) (s : State) : Result :=
  let s := s.instrTicks 2
  s.readThen (s.byteAddress 1#16) fun d =>
    ({ s with core := { s.core with p := setFlag s.core.p f value, pc := s.byteAddress 1#16 } } : State).fetchNext
      opcode 2#3 d

/-- An opcode without a micro-program: the dispatch of its step 0 raises the fault (`47_unimplemented.md` R200). -/
def unimplemented (opcode : Byte) (_s : State) : Result := .fault (.engine (.unimplementedOpcode opcode 0#3))

end Sys2Proof.Machine
end

