-- ==== Sys2Proof/Machine/FlagSystem.lean ====
section
/-! DEFINITION. Flag instructions and BRK (`46_flag_system.md`). -/

namespace Sys2Proof.Machine

/-- CLC (R180). -/
def execClc (s : State) : Result := impliedFlag 0x18#8 .c false s

/-- SEC (R181). -/
def execSec (s : State) : Result := impliedFlag 0x38#8 .c true s

/-- CLI (R182). -/
def execCli (s : State) : Result := impliedFlag 0x58#8 .i false s

/-- SEI (R183). -/
def execSei (s : State) : Result := impliedFlag 0x78#8 .i true s

/-- CLV (R184). -/
def execClv (s : State) : Result := impliedFlag 0xB8#8 .v false s

/-- CLD (R185). -/
def execCld (s : State) : Result := impliedFlag 0xD8#8 .d false s

/-- SED (R186). -/
def execSed (s : State) : Result := impliedFlag 0xF8#8 .d true s

/-- BRK (R187): step 0 reads the byte after the opcode and discards it, then the BRK sequence runs with no flag pending. -/
def execBrk (s : State) : Result :=
  let s := s.passTick true
  let s : State := { s with core := { s.core with pc := s.core.pc + 1#16 } }
  s.readThen s.core.pc fun _ => s.brkSequence 0#3

end Sys2Proof.Machine
end

