-- ==== Sys2Proof/Machine/Jump.lean ====
section
/-! DEFINITION. Control transfer (`45_jump.md`). -/

namespace Sys2Proof.Machine

/-- JMP absolute (R170): PC becomes `addr16`; AD keeps its low byte. -/
def execJmp (addr : Word) (s : State) : Result :=
  let s := s.instrTicks 3
  ({ s with core := { s.core with pc := addr, ad := (lo addr).setWidth 16 } } : State).fetchNext 0x4C#8 3#3 (hi addr)

/-- JSR absolute (R171): the stack is read and discarded, the address of the instruction's last byte is pushed, high byte
first, and only then is the target's high byte read, so a JSR that pushes over its own last byte jumps to the pushed
value (log 7). -/
def execJsr (addr : Word) (s : State) : Result :=
  let s := s.instrTicks 6
  let ret := s.byteAddress 2#16
  s.readThen s.core.stackAddress fun _ =>
    let s := (s.push (hi ret)).push (lo ret)
    s.readThen ret fun h =>
      ({ s with core := { s.core with pc := join h (lo addr), ad := (lo addr).setWidth 16 } } : State).fetchNext
        0x20#8 6#3 h

end Sys2Proof.Machine
end

