-- ==== Sys2Proof/Machine/LoadStore.lean ====
section
/-! DEFINITION. Load and store (`42_load_store.md`). -/

namespace Sys2Proof.Machine

/-- LDA immediate (R130). -/
def execLdaImm (v : Byte) (s : State) : Result := immediate 0xA9#8 opLda v s

/-- LDA absolute (R131). -/
def execLdaAbs (addr : Word) (s : State) : Result := absoluteRead 0xAD#8 opLda addr s

/-- STA absolute (R132). -/
def execSta (addr : Word) (s : State) : Result := absoluteWrite 0x8D#8 s.core.a addr s

end Sys2Proof.Machine
end

