-- ==== Sys2Proof/Machine/LogicArith.lean ====
section
/-! DEFINITION. Logic, arithmetic and compare (`43_logic_arith.md`). -/

namespace Sys2Proof.Machine

/-- ORA immediate (R140). -/
def execOraImm (v : Byte) (s : State) : Result := immediate 0x09#8 opOra v s

/-- ORA absolute (R141). -/
def execOraAbs (addr : Word) (s : State) : Result := absoluteRead 0x0D#8 opOra addr s

/-- AND immediate (R142). -/
def execAndImm (v : Byte) (s : State) : Result := immediate 0x29#8 opAnd v s

/-- AND absolute (R143). -/
def execAndAbs (addr : Word) (s : State) : Result := absoluteRead 0x2D#8 opAnd addr s

/-- EOR immediate (R144). -/
def execEorImm (v : Byte) (s : State) : Result := immediate 0x49#8 opEor v s

/-- EOR absolute (R145). -/
def execEorAbs (addr : Word) (s : State) : Result := absoluteRead 0x4D#8 opEor addr s

/-- ADC immediate (R146). -/
def execAdcImm (v : Byte) (s : State) : Result := immediate 0x69#8 opAdc v s

/-- ADC absolute (R147). -/
def execAdcAbs (addr : Word) (s : State) : Result := absoluteRead 0x6D#8 opAdc addr s

/-- SBC immediate (R148). -/
def execSbcImm (v : Byte) (s : State) : Result := immediate 0xE9#8 opSbc v s

/-- SBC absolute (R149). -/
def execSbcAbs (addr : Word) (s : State) : Result := absoluteRead 0xED#8 opSbc addr s

/-- CMP immediate (R150). -/
def execCmpImm (v : Byte) (s : State) : Result := immediate 0xC9#8 opCmp v s

/-- CMP absolute (R151). -/
def execCmpAbs (addr : Word) (s : State) : Result := absoluteRead 0xCD#8 opCmp addr s

end Sys2Proof.Machine
end

