-- ==== Sys2Proof/Machine/ShiftRotate.lean ====
section
/-! DEFINITION. Shift and rotate (`44_shift_rotate.md`). -/

namespace Sys2Proof.Machine

/-- ASL accumulator (R160). -/
def execAslAcc (s : State) : Result := accumulator 0x0A#8 asl s

/-- ASL absolute (R161). -/
def execAslAbs (addr : Word) (s : State) : Result := absoluteModify 0x0E#8 asl addr s

/-- ROL accumulator (R162). -/
def execRolAcc (s : State) : Result := accumulator 0x2A#8 rol s

/-- ROL absolute (R163). -/
def execRolAbs (addr : Word) (s : State) : Result := absoluteModify 0x2E#8 rol addr s

/-- LSR accumulator (R164). -/
def execLsrAcc (s : State) : Result := accumulator 0x4A#8 lsr s

/-- LSR absolute (R165). -/
def execLsrAbs (addr : Word) (s : State) : Result := absoluteModify 0x4E#8 lsr addr s

/-- ROR accumulator (R166). -/
def execRorAcc (s : State) : Result := accumulator 0x6A#8 ror s

/-- ROR absolute (R167). -/
def execRorAbs (addr : Word) (s : State) : Result := absoluteModify 0x6E#8 ror addr s

end Sys2Proof.Machine
end

