-- ==== Sys2Proof/Machine/Unimplemented.lean ====
section
/-! DEFINITION. The 223 opcode values without a micro-program (`47_unimplemented.md` R200, R201): each stops with
`UnimplementedOpcode(opcode, 0)`. One definition per opcode, so that each arm of `exec` has a meaning of its own. -/

namespace Sys2Proof.Machine

/-- 0x01, ORA (zp,x) (R200). -/
def execOra_ind_zp_x_01 (s : State) : Result := unimplemented 0x01#8 s

/-- 0x02, NOP # (R200). -/
def execNop_2_02 (s : State) : Result := unimplemented 0x02#8 s

/-- 0x03, NOP (R200). -/
def execNop_03 (s : State) : Result := unimplemented 0x03#8 s

/-- 0x04, TSB zp (R200). -/
def execTsb_zp_04 (s : State) : Result := unimplemented 0x04#8 s

/-- 0x05, ORA zp (R200). -/
def execOra_zp_05 (s : State) : Result := unimplemented 0x05#8 s

/-- 0x06, ASL zp (R200). -/
def execAsl_zp_06 (s : State) : Result := unimplemented 0x06#8 s

/-- 0x07, RMB0 zp (R200). -/
def execRmb0_zp_07 (s : State) : Result := unimplemented 0x07#8 s

/-- 0x08, PHP s (R200). -/
def execPhp_s_08 (s : State) : Result := unimplemented 0x08#8 s

/-- 0x0B, NOP (R200). -/
def execNop_0B (s : State) : Result := unimplemented 0x0B#8 s

/-- 0x0C, TSB a (R200). -/
def execTsb_a_0C (s : State) : Result := unimplemented 0x0C#8 s

/-- 0x0F, BBR0 r (R200). -/
def execBbr0_r_0F (s : State) : Result := unimplemented 0x0F#8 s

/-- 0x10, BPL r (R200). -/
def execBpl_r_10 (s : State) : Result := unimplemented 0x10#8 s

/-- 0x11, ORA (zp),y (R200). -/
def execOra_ind_zp_y_11 (s : State) : Result := unimplemented 0x11#8 s

/-- 0x12, ORA (zp) (R200). -/
def execOra_ind_zp_12 (s : State) : Result := unimplemented 0x12#8 s

/-- 0x13, NOP (R200). -/
def execNop_13 (s : State) : Result := unimplemented 0x13#8 s

/-- 0x14, TRB zp (R200). -/
def execTrb_zp_14 (s : State) : Result := unimplemented 0x14#8 s

/-- 0x15, ORA zp,x (R200). -/
def execOra_zp_x_15 (s : State) : Result := unimplemented 0x15#8 s

/-- 0x16, ASL zp,x (R200). -/
def execAsl_zp_x_16 (s : State) : Result := unimplemented 0x16#8 s

/-- 0x17, RMB1 zp (R200). -/
def execRmb1_zp_17 (s : State) : Result := unimplemented 0x17#8 s

/-- 0x19, ORA a,y (R200). -/
def execOra_a_y_19 (s : State) : Result := unimplemented 0x19#8 s

/-- 0x1A, INC A (R200). -/
def execInc_a_1A (s : State) : Result := unimplemented 0x1A#8 s

/-- 0x1B, NOP (R200). -/
def execNop_1B (s : State) : Result := unimplemented 0x1B#8 s

/-- 0x1C, TRB a (R200). -/
def execTrb_a_1C (s : State) : Result := unimplemented 0x1C#8 s

/-- 0x1D, ORA a,x (R200). -/
def execOra_a_x_1D (s : State) : Result := unimplemented 0x1D#8 s

/-- 0x1E, ASL a,x (R200). -/
def execAsl_a_x_1E (s : State) : Result := unimplemented 0x1E#8 s

/-- 0x1F, BBR1 r (R200). -/
def execBbr1_r_1F (s : State) : Result := unimplemented 0x1F#8 s

/-- 0x21, AND (zp,x) (R200). -/
def execAnd_ind_zp_x_21 (s : State) : Result := unimplemented 0x21#8 s

/-- 0x22, NOP # (R200). -/
def execNop_2_22 (s : State) : Result := unimplemented 0x22#8 s

/-- 0x23, NOP (R200). -/
def execNop_23 (s : State) : Result := unimplemented 0x23#8 s

/-- 0x24, BIT zp (R200). -/
def execBit_zp_24 (s : State) : Result := unimplemented 0x24#8 s

/-- 0x25, AND zp (R200). -/
def execAnd_zp_25 (s : State) : Result := unimplemented 0x25#8 s

/-- 0x26, ROL zp (R200). -/
def execRol_zp_26 (s : State) : Result := unimplemented 0x26#8 s

/-- 0x27, RMB2 zp (R200). -/
def execRmb2_zp_27 (s : State) : Result := unimplemented 0x27#8 s

/-- 0x28, PLP s (R200). -/
def execPlp_s_28 (s : State) : Result := unimplemented 0x28#8 s

/-- 0x2B, NOP (R200). -/
def execNop_2B (s : State) : Result := unimplemented 0x2B#8 s

/-- 0x2C, BIT a (R200). -/
def execBit_a_2C (s : State) : Result := unimplemented 0x2C#8 s

/-- 0x2F, BBR2 r (R200). -/
def execBbr2_r_2F (s : State) : Result := unimplemented 0x2F#8 s

/-- 0x30, BMI r (R200). -/
def execBmi_r_30 (s : State) : Result := unimplemented 0x30#8 s

/-- 0x31, AND (zp),y (R200). -/
def execAnd_ind_zp_y_31 (s : State) : Result := unimplemented 0x31#8 s

/-- 0x32, AND (zp) (R200). -/
def execAnd_ind_zp_32 (s : State) : Result := unimplemented 0x32#8 s

/-- 0x33, NOP (R200). -/
def execNop_33 (s : State) : Result := unimplemented 0x33#8 s

/-- 0x34, BIT zp,x (R200). -/
def execBit_zp_x_34 (s : State) : Result := unimplemented 0x34#8 s

/-- 0x35, AND zp,x (R200). -/
def execAnd_zp_x_35 (s : State) : Result := unimplemented 0x35#8 s

/-- 0x36, ROL zp,x (R200). -/
def execRol_zp_x_36 (s : State) : Result := unimplemented 0x36#8 s

/-- 0x37, RMB3 zp (R200). -/
def execRmb3_zp_37 (s : State) : Result := unimplemented 0x37#8 s

/-- 0x39, AND a,y (R200). -/
def execAnd_a_y_39 (s : State) : Result := unimplemented 0x39#8 s

/-- 0x3A, DEC A (R200). -/
def execDec_a_3A (s : State) : Result := unimplemented 0x3A#8 s

/-- 0x3B, NOP (R200). -/
def execNop_3B (s : State) : Result := unimplemented 0x3B#8 s

/-- 0x3C, BIT a,x (R200). -/
def execBit_a_x_3C (s : State) : Result := unimplemented 0x3C#8 s

/-- 0x3D, AND a,x (R200). -/
def execAnd_a_x_3D (s : State) : Result := unimplemented 0x3D#8 s

/-- 0x3E, ROL a,x (R200). -/
def execRol_a_x_3E (s : State) : Result := unimplemented 0x3E#8 s

/-- 0x3F, BBR3 r (R200). -/
def execBbr3_r_3F (s : State) : Result := unimplemented 0x3F#8 s

/-- 0x40, RTI s (R200). -/
def execRti_s_40 (s : State) : Result := unimplemented 0x40#8 s

/-- 0x41, EOR (zp,x) (R200). -/
def execEor_ind_zp_x_41 (s : State) : Result := unimplemented 0x41#8 s

/-- 0x42, NOP # (R200). -/
def execNop_2_42 (s : State) : Result := unimplemented 0x42#8 s

/-- 0x43, NOP (R200). -/
def execNop_43 (s : State) : Result := unimplemented 0x43#8 s

/-- 0x44, NOP zp (R200). -/
def execNop_zp_44 (s : State) : Result := unimplemented 0x44#8 s

/-- 0x45, EOR zp (R200). -/
def execEor_zp_45 (s : State) : Result := unimplemented 0x45#8 s

/-- 0x46, LSR zp (R200). -/
def execLsr_zp_46 (s : State) : Result := unimplemented 0x46#8 s

/-- 0x47, RMB4 zp (R200). -/
def execRmb4_zp_47 (s : State) : Result := unimplemented 0x47#8 s

/-- 0x48, PHA s (R200). -/
def execPha_s_48 (s : State) : Result := unimplemented 0x48#8 s

/-- 0x4B, NOP (R200). -/
def execNop_4B (s : State) : Result := unimplemented 0x4B#8 s

/-- 0x4F, BBR4 r (R200). -/
def execBbr4_r_4F (s : State) : Result := unimplemented 0x4F#8 s

/-- 0x50, BVC r (R200). -/
def execBvc_r_50 (s : State) : Result := unimplemented 0x50#8 s

/-- 0x51, EOR (zp),y (R200). -/
def execEor_ind_zp_y_51 (s : State) : Result := unimplemented 0x51#8 s

/-- 0x52, EOR (zp) (R200). -/
def execEor_ind_zp_52 (s : State) : Result := unimplemented 0x52#8 s

/-- 0x53, NOP (R200). -/
def execNop_53 (s : State) : Result := unimplemented 0x53#8 s

/-- 0x54, NOP zp,x (R200). -/
def execNop_zp_x_54 (s : State) : Result := unimplemented 0x54#8 s

/-- 0x55, EOR zp,x (R200). -/
def execEor_zp_x_55 (s : State) : Result := unimplemented 0x55#8 s

/-- 0x56, LSR zp,x (R200). -/
def execLsr_zp_x_56 (s : State) : Result := unimplemented 0x56#8 s

/-- 0x57, RMB5 zp (R200). -/
def execRmb5_zp_57 (s : State) : Result := unimplemented 0x57#8 s

/-- 0x59, EOR a,y (R200). -/
def execEor_a_y_59 (s : State) : Result := unimplemented 0x59#8 s

/-- 0x5A, PHY s (R200). -/
def execPhy_s_5A (s : State) : Result := unimplemented 0x5A#8 s

/-- 0x5B, NOP (R200). -/
def execNop_5B (s : State) : Result := unimplemented 0x5B#8 s

/-- 0x5C, NOP a (R200). -/
def execNop_a_5C (s : State) : Result := unimplemented 0x5C#8 s

/-- 0x5D, EOR a,x (R200). -/
def execEor_a_x_5D (s : State) : Result := unimplemented 0x5D#8 s

/-- 0x5E, LSR a,x (R200). -/
def execLsr_a_x_5E (s : State) : Result := unimplemented 0x5E#8 s

/-- 0x5F, BBR5 r (R200). -/
def execBbr5_r_5F (s : State) : Result := unimplemented 0x5F#8 s

/-- 0x60, RTS s (R200). -/
def execRts_s_60 (s : State) : Result := unimplemented 0x60#8 s

/-- 0x61, ADC (zp,x) (R200). -/
def execAdc_ind_zp_x_61 (s : State) : Result := unimplemented 0x61#8 s

/-- 0x62, NOP # (R200). -/
def execNop_2_62 (s : State) : Result := unimplemented 0x62#8 s

/-- 0x63, NOP (R200). -/
def execNop_63 (s : State) : Result := unimplemented 0x63#8 s

/-- 0x64, STZ zp (R200). -/
def execStz_zp_64 (s : State) : Result := unimplemented 0x64#8 s

/-- 0x65, ADC zp (R200). -/
def execAdc_zp_65 (s : State) : Result := unimplemented 0x65#8 s

/-- 0x66, ROR zp (R200). -/
def execRor_zp_66 (s : State) : Result := unimplemented 0x66#8 s

/-- 0x67, RMB6 zp (R200). -/
def execRmb6_zp_67 (s : State) : Result := unimplemented 0x67#8 s

/-- 0x68, PLA s (R200). -/
def execPla_s_68 (s : State) : Result := unimplemented 0x68#8 s

/-- 0x6B, NOP (R200). -/
def execNop_6B (s : State) : Result := unimplemented 0x6B#8 s

/-- 0x6C, JMP (a) (R200). -/
def execJmp_ind_a_6C (s : State) : Result := unimplemented 0x6C#8 s

/-- 0x6F, BBR6 r (R200). -/
def execBbr6_r_6F (s : State) : Result := unimplemented 0x6F#8 s

/-- 0x70, BVS r (R200). -/
def execBvs_r_70 (s : State) : Result := unimplemented 0x70#8 s

/-- 0x71, ADC (zp),y (R200). -/
def execAdc_ind_zp_y_71 (s : State) : Result := unimplemented 0x71#8 s

/-- 0x72, ADC (zp) (R200). -/
def execAdc_ind_zp_72 (s : State) : Result := unimplemented 0x72#8 s

/-- 0x73, NOP (R200). -/
def execNop_73 (s : State) : Result := unimplemented 0x73#8 s

/-- 0x74, STZ zp,x (R200). -/
def execStz_zp_x_74 (s : State) : Result := unimplemented 0x74#8 s

/-- 0x75, ADC zp,x (R200). -/
def execAdc_zp_x_75 (s : State) : Result := unimplemented 0x75#8 s

/-- 0x76, ROR zp,x (R200). -/
def execRor_zp_x_76 (s : State) : Result := unimplemented 0x76#8 s

/-- 0x77, RMB7 zp (R200). -/
def execRmb7_zp_77 (s : State) : Result := unimplemented 0x77#8 s

/-- 0x79, ADC a,y (R200). -/
def execAdc_a_y_79 (s : State) : Result := unimplemented 0x79#8 s

/-- 0x7A, PLY s (R200). -/
def execPly_s_7A (s : State) : Result := unimplemented 0x7A#8 s

/-- 0x7B, NOP (R200). -/
def execNop_7B (s : State) : Result := unimplemented 0x7B#8 s

/-- 0x7C, JMP (a,x) (R200). -/
def execJmp_ind_a_x_7C (s : State) : Result := unimplemented 0x7C#8 s

/-- 0x7D, ADC a,x (R200). -/
def execAdc_a_x_7D (s : State) : Result := unimplemented 0x7D#8 s

/-- 0x7E, ROR a,x (R200). -/
def execRor_a_x_7E (s : State) : Result := unimplemented 0x7E#8 s

/-- 0x7F, BBR7 r (R200). -/
def execBbr7_r_7F (s : State) : Result := unimplemented 0x7F#8 s

/-- 0x80, BRA r (R200). -/
def execBra_r_80 (s : State) : Result := unimplemented 0x80#8 s

/-- 0x81, STA (zp,x) (R200). -/
def execSta_ind_zp_x_81 (s : State) : Result := unimplemented 0x81#8 s

/-- 0x82, NOP # (R200). -/
def execNop_2_82 (s : State) : Result := unimplemented 0x82#8 s

/-- 0x83, NOP (R200). -/
def execNop_83 (s : State) : Result := unimplemented 0x83#8 s

/-- 0x84, STY zp (R200). -/
def execSty_zp_84 (s : State) : Result := unimplemented 0x84#8 s

/-- 0x85, STA zp (R200). -/
def execSta_zp_85 (s : State) : Result := unimplemented 0x85#8 s

/-- 0x86, STX zp (R200). -/
def execStx_zp_86 (s : State) : Result := unimplemented 0x86#8 s

/-- 0x87, SMB0 zp (R200). -/
def execSmb0_zp_87 (s : State) : Result := unimplemented 0x87#8 s

/-- 0x88, DEY i (R200). -/
def execDey_i_88 (s : State) : Result := unimplemented 0x88#8 s

/-- 0x89, BIT # (R200). -/
def execBit_89 (s : State) : Result := unimplemented 0x89#8 s

/-- 0x8A, TXA i (R200). -/
def execTxa_i_8A (s : State) : Result := unimplemented 0x8A#8 s

/-- 0x8B, NOP (R200). -/
def execNop_8B (s : State) : Result := unimplemented 0x8B#8 s

/-- 0x8C, STY a (R200). -/
def execSty_a_8C (s : State) : Result := unimplemented 0x8C#8 s

/-- 0x8E, STX a (R200). -/
def execStx_a_8E (s : State) : Result := unimplemented 0x8E#8 s

/-- 0x8F, BBS0 r (R200). -/
def execBbs0_r_8F (s : State) : Result := unimplemented 0x8F#8 s

/-- 0x90, BCC r (R200). -/
def execBcc_r_90 (s : State) : Result := unimplemented 0x90#8 s

/-- 0x91, STA (zp),y (R200). -/
def execSta_ind_zp_y_91 (s : State) : Result := unimplemented 0x91#8 s

/-- 0x92, STA (zp) (R200). -/
def execSta_ind_zp_92 (s : State) : Result := unimplemented 0x92#8 s

/-- 0x93, NOP (R200). -/
def execNop_93 (s : State) : Result := unimplemented 0x93#8 s

/-- 0x94, STY zp,x (R200). -/
def execSty_zp_x_94 (s : State) : Result := unimplemented 0x94#8 s

/-- 0x95, STA zp,x (R200). -/
def execSta_zp_x_95 (s : State) : Result := unimplemented 0x95#8 s

/-- 0x96, STX zp,y (R200). -/
def execStx_zp_y_96 (s : State) : Result := unimplemented 0x96#8 s

/-- 0x97, SMB1 zp (R200). -/
def execSmb1_zp_97 (s : State) : Result := unimplemented 0x97#8 s

/-- 0x98, TYA i (R200). -/
def execTya_i_98 (s : State) : Result := unimplemented 0x98#8 s

/-- 0x99, STA a,y (R200). -/
def execSta_a_y_99 (s : State) : Result := unimplemented 0x99#8 s

/-- 0x9A, TXS i (R200). -/
def execTxs_i_9A (s : State) : Result := unimplemented 0x9A#8 s

/-- 0x9B, NOP (R200). -/
def execNop_9B (s : State) : Result := unimplemented 0x9B#8 s

/-- 0x9C, STZ a (R200). -/
def execStz_a_9C (s : State) : Result := unimplemented 0x9C#8 s

/-- 0x9D, STA a,x (R200). -/
def execSta_a_x_9D (s : State) : Result := unimplemented 0x9D#8 s

/-- 0x9E, STZ a,x (R200). -/
def execStz_a_x_9E (s : State) : Result := unimplemented 0x9E#8 s

/-- 0x9F, BBS1 r (R200). -/
def execBbs1_r_9F (s : State) : Result := unimplemented 0x9F#8 s

/-- 0xA0, LDY # (R200). -/
def execLdy_A0 (s : State) : Result := unimplemented 0xA0#8 s

/-- 0xA1, LDA (zp,x) (R200). -/
def execLda_ind_zp_x_A1 (s : State) : Result := unimplemented 0xA1#8 s

/-- 0xA2, LDX # (R200). -/
def execLdx_A2 (s : State) : Result := unimplemented 0xA2#8 s

/-- 0xA3, NOP (R200). -/
def execNop_A3 (s : State) : Result := unimplemented 0xA3#8 s

/-- 0xA4, LDY zp (R200). -/
def execLdy_zp_A4 (s : State) : Result := unimplemented 0xA4#8 s

/-- 0xA5, LDA zp (R200). -/
def execLda_zp_A5 (s : State) : Result := unimplemented 0xA5#8 s

/-- 0xA6, LDX zp (R200). -/
def execLdx_zp_A6 (s : State) : Result := unimplemented 0xA6#8 s

/-- 0xA7, SMB2 zp (R200). -/
def execSmb2_zp_A7 (s : State) : Result := unimplemented 0xA7#8 s

/-- 0xA8, TAY i (R200). -/
def execTay_i_A8 (s : State) : Result := unimplemented 0xA8#8 s

/-- 0xAA, TAX i (R200). -/
def execTax_i_AA (s : State) : Result := unimplemented 0xAA#8 s

/-- 0xAB, NOP (R200). -/
def execNop_AB (s : State) : Result := unimplemented 0xAB#8 s

/-- 0xAC, LDY a (R200). -/
def execLdy_a_AC (s : State) : Result := unimplemented 0xAC#8 s

/-- 0xAE, LDX a (R200). -/
def execLdx_a_AE (s : State) : Result := unimplemented 0xAE#8 s

/-- 0xAF, BBS2 r (R200). -/
def execBbs2_r_AF (s : State) : Result := unimplemented 0xAF#8 s

/-- 0xB0, BCS r (R200). -/
def execBcs_r_B0 (s : State) : Result := unimplemented 0xB0#8 s

/-- 0xB1, LDA (zp),y (R200). -/
def execLda_ind_zp_y_B1 (s : State) : Result := unimplemented 0xB1#8 s

/-- 0xB2, LDA (zp) (R200). -/
def execLda_ind_zp_B2 (s : State) : Result := unimplemented 0xB2#8 s

/-- 0xB3, NOP (R200). -/
def execNop_B3 (s : State) : Result := unimplemented 0xB3#8 s

/-- 0xB4, LDY zp,x (R200). -/
def execLdy_zp_x_B4 (s : State) : Result := unimplemented 0xB4#8 s

/-- 0xB5, LDA zp,x (R200). -/
def execLda_zp_x_B5 (s : State) : Result := unimplemented 0xB5#8 s

/-- 0xB6, LDX zp,y (R200). -/
def execLdx_zp_y_B6 (s : State) : Result := unimplemented 0xB6#8 s

/-- 0xB7, SMB3 zp (R200). -/
def execSmb3_zp_B7 (s : State) : Result := unimplemented 0xB7#8 s

/-- 0xB9, LDA a,y (R200). -/
def execLda_a_y_B9 (s : State) : Result := unimplemented 0xB9#8 s

/-- 0xBA, TSX i (R200). -/
def execTsx_i_BA (s : State) : Result := unimplemented 0xBA#8 s

/-- 0xBB, NOP (R200). -/
def execNop_BB (s : State) : Result := unimplemented 0xBB#8 s

/-- 0xBC, LDY a,x (R200). -/
def execLdy_a_x_BC (s : State) : Result := unimplemented 0xBC#8 s

/-- 0xBD, LDA a,x (R200). -/
def execLda_a_x_BD (s : State) : Result := unimplemented 0xBD#8 s

/-- 0xBE, LDX a,y (R200). -/
def execLdx_a_y_BE (s : State) : Result := unimplemented 0xBE#8 s

/-- 0xBF, BBS3 r (R200). -/
def execBbs3_r_BF (s : State) : Result := unimplemented 0xBF#8 s

/-- 0xC0, CPY # (R200). -/
def execCpy_C0 (s : State) : Result := unimplemented 0xC0#8 s

/-- 0xC1, CMP (zp,x) (R200). -/
def execCmp_ind_zp_x_C1 (s : State) : Result := unimplemented 0xC1#8 s

/-- 0xC2, NOP # (R200). -/
def execNop_2_C2 (s : State) : Result := unimplemented 0xC2#8 s

/-- 0xC3, NOP (R200). -/
def execNop_C3 (s : State) : Result := unimplemented 0xC3#8 s

/-- 0xC4, CPY zp (R200). -/
def execCpy_zp_C4 (s : State) : Result := unimplemented 0xC4#8 s

/-- 0xC5, CMP zp (R200). -/
def execCmp_zp_C5 (s : State) : Result := unimplemented 0xC5#8 s

/-- 0xC6, DEC zp (R200). -/
def execDec_zp_C6 (s : State) : Result := unimplemented 0xC6#8 s

/-- 0xC7, SMB4 zp (R200). -/
def execSmb4_zp_C7 (s : State) : Result := unimplemented 0xC7#8 s

/-- 0xC8, INY i (R200). -/
def execIny_i_C8 (s : State) : Result := unimplemented 0xC8#8 s

/-- 0xCA, DEX i (R200). -/
def execDex_i_CA (s : State) : Result := unimplemented 0xCA#8 s

/-- 0xCB, WAI i (R200). -/
def execWai_i_CB (s : State) : Result := unimplemented 0xCB#8 s

/-- 0xCC, CPY a (R200). -/
def execCpy_a_CC (s : State) : Result := unimplemented 0xCC#8 s

/-- 0xCE, DEC a (R200). -/
def execDec_a_CE (s : State) : Result := unimplemented 0xCE#8 s

/-- 0xCF, BBS4 r (R200). -/
def execBbs4_r_CF (s : State) : Result := unimplemented 0xCF#8 s

/-- 0xD0, BNE r (R200). -/
def execBne_r_D0 (s : State) : Result := unimplemented 0xD0#8 s

/-- 0xD1, CMP (zp),y (R200). -/
def execCmp_ind_zp_y_D1 (s : State) : Result := unimplemented 0xD1#8 s

/-- 0xD2, CMP (zp) (R200). -/
def execCmp_ind_zp_D2 (s : State) : Result := unimplemented 0xD2#8 s

/-- 0xD3, NOP (R200). -/
def execNop_D3 (s : State) : Result := unimplemented 0xD3#8 s

/-- 0xD4, NOP zp,x (R200). -/
def execNop_zp_x_D4 (s : State) : Result := unimplemented 0xD4#8 s

/-- 0xD5, CMP zp,x (R200). -/
def execCmp_zp_x_D5 (s : State) : Result := unimplemented 0xD5#8 s

/-- 0xD6, DEC zp,x (R200). -/
def execDec_zp_x_D6 (s : State) : Result := unimplemented 0xD6#8 s

/-- 0xD7, SMB5 zp (R200). -/
def execSmb5_zp_D7 (s : State) : Result := unimplemented 0xD7#8 s

/-- 0xD9, CMP a,y (R200). -/
def execCmp_a_y_D9 (s : State) : Result := unimplemented 0xD9#8 s

/-- 0xDA, PHX s (R200). -/
def execPhx_s_DA (s : State) : Result := unimplemented 0xDA#8 s

/-- 0xDB, STP i (R200). -/
def execStp_i_DB (s : State) : Result := unimplemented 0xDB#8 s

/-- 0xDC, NOP a (R200). -/
def execNop_a_DC (s : State) : Result := unimplemented 0xDC#8 s

/-- 0xDD, CMP a,x (R200). -/
def execCmp_a_x_DD (s : State) : Result := unimplemented 0xDD#8 s

/-- 0xDE, DEC a,x (R200). -/
def execDec_a_x_DE (s : State) : Result := unimplemented 0xDE#8 s

/-- 0xDF, BBS5 r (R200). -/
def execBbs5_r_DF (s : State) : Result := unimplemented 0xDF#8 s

/-- 0xE0, CPX # (R200). -/
def execCpx_E0 (s : State) : Result := unimplemented 0xE0#8 s

/-- 0xE1, SBC (zp,x) (R200). -/
def execSbc_ind_zp_x_E1 (s : State) : Result := unimplemented 0xE1#8 s

/-- 0xE2, NOP # (R200). -/
def execNop_2_E2 (s : State) : Result := unimplemented 0xE2#8 s

/-- 0xE3, NOP (R200). -/
def execNop_E3 (s : State) : Result := unimplemented 0xE3#8 s

/-- 0xE4, CPX zp (R200). -/
def execCpx_zp_E4 (s : State) : Result := unimplemented 0xE4#8 s

/-- 0xE5, SBC zp (R200). -/
def execSbc_zp_E5 (s : State) : Result := unimplemented 0xE5#8 s

/-- 0xE6, INC zp (R200). -/
def execInc_zp_E6 (s : State) : Result := unimplemented 0xE6#8 s

/-- 0xE7, SMB6 zp (R200). -/
def execSmb6_zp_E7 (s : State) : Result := unimplemented 0xE7#8 s

/-- 0xE8, INX i (R200). -/
def execInx_i_E8 (s : State) : Result := unimplemented 0xE8#8 s

/-- 0xEA, NOP i (R200). -/
def execNop_i_EA (s : State) : Result := unimplemented 0xEA#8 s

/-- 0xEB, NOP (R200). -/
def execNop_EB (s : State) : Result := unimplemented 0xEB#8 s

/-- 0xEC, CPX a (R200). -/
def execCpx_a_EC (s : State) : Result := unimplemented 0xEC#8 s

/-- 0xEE, INC a (R200). -/
def execInc_a_EE (s : State) : Result := unimplemented 0xEE#8 s

/-- 0xEF, BBS6 r (R200). -/
def execBbs6_r_EF (s : State) : Result := unimplemented 0xEF#8 s

/-- 0xF0, BEQ r (R200). -/
def execBeq_r_F0 (s : State) : Result := unimplemented 0xF0#8 s

/-- 0xF1, SBC (zp),y (R200). -/
def execSbc_ind_zp_y_F1 (s : State) : Result := unimplemented 0xF1#8 s

/-- 0xF2, SBC (zp) (R200). -/
def execSbc_ind_zp_F2 (s : State) : Result := unimplemented 0xF2#8 s

/-- 0xF3, NOP (R200). -/
def execNop_F3 (s : State) : Result := unimplemented 0xF3#8 s

/-- 0xF4, NOP zp,x (R200). -/
def execNop_zp_x_F4 (s : State) : Result := unimplemented 0xF4#8 s

/-- 0xF5, SBC zp,x (R200). -/
def execSbc_zp_x_F5 (s : State) : Result := unimplemented 0xF5#8 s

/-- 0xF6, INC zp,x (R200). -/
def execInc_zp_x_F6 (s : State) : Result := unimplemented 0xF6#8 s

/-- 0xF7, SMB7 zp (R200). -/
def execSmb7_zp_F7 (s : State) : Result := unimplemented 0xF7#8 s

/-- 0xF9, SBC a,y (R200). -/
def execSbc_a_y_F9 (s : State) : Result := unimplemented 0xF9#8 s

/-- 0xFA, PLX s (R200). -/
def execPlx_s_FA (s : State) : Result := unimplemented 0xFA#8 s

/-- 0xFB, NOP (R200). -/
def execNop_FB (s : State) : Result := unimplemented 0xFB#8 s

/-- 0xFC, NOP a (R200). -/
def execNop_a_FC (s : State) : Result := unimplemented 0xFC#8 s

/-- 0xFD, SBC a,x (R200). -/
def execSbc_a_x_FD (s : State) : Result := unimplemented 0xFD#8 s

/-- 0xFE, INC a,x (R200). -/
def execInc_a_x_FE (s : State) : Result := unimplemented 0xFE#8 s

/-- 0xFF, BBS7 r (R200). -/
def execBbs7_r_FF (s : State) : Result := unimplemented 0xFF#8 s

end Sys2Proof.Machine
end

