-- ==== Sys2Proof/Machine/Dispatch.lean ====
section
/-! DEFINITION. One arm per constructor: the instruction-level meaning of each instruction (`40_engine.md` R113). -/

namespace Sys2Proof.Machine

def exec (i : Instr) (s : State) : Host.Outcome State Fault Refusal :=
  match i with
  | .brk => Sys2Proof.Machine.execBrk s
  | .ora_ind_zp_x_01 => Sys2Proof.Machine.execOra_ind_zp_x_01 s
  | .nop_2_02 => Sys2Proof.Machine.execNop_2_02 s
  | .nop_03 => Sys2Proof.Machine.execNop_03 s
  | .tsb_zp_04 => Sys2Proof.Machine.execTsb_zp_04 s
  | .ora_zp_05 => Sys2Proof.Machine.execOra_zp_05 s
  | .asl_zp_06 => Sys2Proof.Machine.execAsl_zp_06 s
  | .rmb0_zp_07 => Sys2Proof.Machine.execRmb0_zp_07 s
  | .php_s_08 => Sys2Proof.Machine.execPhp_s_08 s
  | .oraImm v => Sys2Proof.Machine.execOraImm v s
  | .aslAcc => Sys2Proof.Machine.execAslAcc s
  | .nop_0B => Sys2Proof.Machine.execNop_0B s
  | .tsb_a_0C => Sys2Proof.Machine.execTsb_a_0C s
  | .oraAbs addr => Sys2Proof.Machine.execOraAbs addr s
  | .aslAbs addr => Sys2Proof.Machine.execAslAbs addr s
  | .bbr0_r_0F => Sys2Proof.Machine.execBbr0_r_0F s
  | .bpl_r_10 => Sys2Proof.Machine.execBpl_r_10 s
  | .ora_ind_zp_y_11 => Sys2Proof.Machine.execOra_ind_zp_y_11 s
  | .ora_ind_zp_12 => Sys2Proof.Machine.execOra_ind_zp_12 s
  | .nop_13 => Sys2Proof.Machine.execNop_13 s
  | .trb_zp_14 => Sys2Proof.Machine.execTrb_zp_14 s
  | .ora_zp_x_15 => Sys2Proof.Machine.execOra_zp_x_15 s
  | .asl_zp_x_16 => Sys2Proof.Machine.execAsl_zp_x_16 s
  | .rmb1_zp_17 => Sys2Proof.Machine.execRmb1_zp_17 s
  | .clc => Sys2Proof.Machine.execClc s
  | .ora_a_y_19 => Sys2Proof.Machine.execOra_a_y_19 s
  | .inc_a_1A => Sys2Proof.Machine.execInc_a_1A s
  | .nop_1B => Sys2Proof.Machine.execNop_1B s
  | .trb_a_1C => Sys2Proof.Machine.execTrb_a_1C s
  | .ora_a_x_1D => Sys2Proof.Machine.execOra_a_x_1D s
  | .asl_a_x_1E => Sys2Proof.Machine.execAsl_a_x_1E s
  | .bbr1_r_1F => Sys2Proof.Machine.execBbr1_r_1F s
  | .jsr addr => Sys2Proof.Machine.execJsr addr s
  | .and_ind_zp_x_21 => Sys2Proof.Machine.execAnd_ind_zp_x_21 s
  | .nop_2_22 => Sys2Proof.Machine.execNop_2_22 s
  | .nop_23 => Sys2Proof.Machine.execNop_23 s
  | .bit_zp_24 => Sys2Proof.Machine.execBit_zp_24 s
  | .and_zp_25 => Sys2Proof.Machine.execAnd_zp_25 s
  | .rol_zp_26 => Sys2Proof.Machine.execRol_zp_26 s
  | .rmb2_zp_27 => Sys2Proof.Machine.execRmb2_zp_27 s
  | .plp_s_28 => Sys2Proof.Machine.execPlp_s_28 s
  | .andImm v => Sys2Proof.Machine.execAndImm v s
  | .rolAcc => Sys2Proof.Machine.execRolAcc s
  | .nop_2B => Sys2Proof.Machine.execNop_2B s
  | .bit_a_2C => Sys2Proof.Machine.execBit_a_2C s
  | .andAbs addr => Sys2Proof.Machine.execAndAbs addr s
  | .rolAbs addr => Sys2Proof.Machine.execRolAbs addr s
  | .bbr2_r_2F => Sys2Proof.Machine.execBbr2_r_2F s
  | .bmi_r_30 => Sys2Proof.Machine.execBmi_r_30 s
  | .and_ind_zp_y_31 => Sys2Proof.Machine.execAnd_ind_zp_y_31 s
  | .and_ind_zp_32 => Sys2Proof.Machine.execAnd_ind_zp_32 s
  | .nop_33 => Sys2Proof.Machine.execNop_33 s
  | .bit_zp_x_34 => Sys2Proof.Machine.execBit_zp_x_34 s
  | .and_zp_x_35 => Sys2Proof.Machine.execAnd_zp_x_35 s
  | .rol_zp_x_36 => Sys2Proof.Machine.execRol_zp_x_36 s
  | .rmb3_zp_37 => Sys2Proof.Machine.execRmb3_zp_37 s
  | .sec => Sys2Proof.Machine.execSec s
  | .and_a_y_39 => Sys2Proof.Machine.execAnd_a_y_39 s
  | .dec_a_3A => Sys2Proof.Machine.execDec_a_3A s
  | .nop_3B => Sys2Proof.Machine.execNop_3B s
  | .bit_a_x_3C => Sys2Proof.Machine.execBit_a_x_3C s
  | .and_a_x_3D => Sys2Proof.Machine.execAnd_a_x_3D s
  | .rol_a_x_3E => Sys2Proof.Machine.execRol_a_x_3E s
  | .bbr3_r_3F => Sys2Proof.Machine.execBbr3_r_3F s
  | .rti_s_40 => Sys2Proof.Machine.execRti_s_40 s
  | .eor_ind_zp_x_41 => Sys2Proof.Machine.execEor_ind_zp_x_41 s
  | .nop_2_42 => Sys2Proof.Machine.execNop_2_42 s
  | .nop_43 => Sys2Proof.Machine.execNop_43 s
  | .nop_zp_44 => Sys2Proof.Machine.execNop_zp_44 s
  | .eor_zp_45 => Sys2Proof.Machine.execEor_zp_45 s
  | .lsr_zp_46 => Sys2Proof.Machine.execLsr_zp_46 s
  | .rmb4_zp_47 => Sys2Proof.Machine.execRmb4_zp_47 s
  | .pha_s_48 => Sys2Proof.Machine.execPha_s_48 s
  | .eorImm v => Sys2Proof.Machine.execEorImm v s
  | .lsrAcc => Sys2Proof.Machine.execLsrAcc s
  | .nop_4B => Sys2Proof.Machine.execNop_4B s
  | .jmp addr => Sys2Proof.Machine.execJmp addr s
  | .eorAbs addr => Sys2Proof.Machine.execEorAbs addr s
  | .lsrAbs addr => Sys2Proof.Machine.execLsrAbs addr s
  | .bbr4_r_4F => Sys2Proof.Machine.execBbr4_r_4F s
  | .bvc_r_50 => Sys2Proof.Machine.execBvc_r_50 s
  | .eor_ind_zp_y_51 => Sys2Proof.Machine.execEor_ind_zp_y_51 s
  | .eor_ind_zp_52 => Sys2Proof.Machine.execEor_ind_zp_52 s
  | .nop_53 => Sys2Proof.Machine.execNop_53 s
  | .nop_zp_x_54 => Sys2Proof.Machine.execNop_zp_x_54 s
  | .eor_zp_x_55 => Sys2Proof.Machine.execEor_zp_x_55 s
  | .lsr_zp_x_56 => Sys2Proof.Machine.execLsr_zp_x_56 s
  | .rmb5_zp_57 => Sys2Proof.Machine.execRmb5_zp_57 s
  | .cli => Sys2Proof.Machine.execCli s
  | .eor_a_y_59 => Sys2Proof.Machine.execEor_a_y_59 s
  | .phy_s_5A => Sys2Proof.Machine.execPhy_s_5A s
  | .nop_5B => Sys2Proof.Machine.execNop_5B s
  | .nop_a_5C => Sys2Proof.Machine.execNop_a_5C s
  | .eor_a_x_5D => Sys2Proof.Machine.execEor_a_x_5D s
  | .lsr_a_x_5E => Sys2Proof.Machine.execLsr_a_x_5E s
  | .bbr5_r_5F => Sys2Proof.Machine.execBbr5_r_5F s
  | .rts_s_60 => Sys2Proof.Machine.execRts_s_60 s
  | .adc_ind_zp_x_61 => Sys2Proof.Machine.execAdc_ind_zp_x_61 s
  | .nop_2_62 => Sys2Proof.Machine.execNop_2_62 s
  | .nop_63 => Sys2Proof.Machine.execNop_63 s
  | .stz_zp_64 => Sys2Proof.Machine.execStz_zp_64 s
  | .adc_zp_65 => Sys2Proof.Machine.execAdc_zp_65 s
  | .ror_zp_66 => Sys2Proof.Machine.execRor_zp_66 s
  | .rmb6_zp_67 => Sys2Proof.Machine.execRmb6_zp_67 s
  | .pla_s_68 => Sys2Proof.Machine.execPla_s_68 s
  | .adcImm v => Sys2Proof.Machine.execAdcImm v s
  | .rorAcc => Sys2Proof.Machine.execRorAcc s
  | .nop_6B => Sys2Proof.Machine.execNop_6B s
  | .jmp_ind_a_6C => Sys2Proof.Machine.execJmp_ind_a_6C s
  | .adcAbs addr => Sys2Proof.Machine.execAdcAbs addr s
  | .rorAbs addr => Sys2Proof.Machine.execRorAbs addr s
  | .bbr6_r_6F => Sys2Proof.Machine.execBbr6_r_6F s
  | .bvs_r_70 => Sys2Proof.Machine.execBvs_r_70 s
  | .adc_ind_zp_y_71 => Sys2Proof.Machine.execAdc_ind_zp_y_71 s
  | .adc_ind_zp_72 => Sys2Proof.Machine.execAdc_ind_zp_72 s
  | .nop_73 => Sys2Proof.Machine.execNop_73 s
  | .stz_zp_x_74 => Sys2Proof.Machine.execStz_zp_x_74 s
  | .adc_zp_x_75 => Sys2Proof.Machine.execAdc_zp_x_75 s
  | .ror_zp_x_76 => Sys2Proof.Machine.execRor_zp_x_76 s
  | .rmb7_zp_77 => Sys2Proof.Machine.execRmb7_zp_77 s
  | .sei => Sys2Proof.Machine.execSei s
  | .adc_a_y_79 => Sys2Proof.Machine.execAdc_a_y_79 s
  | .ply_s_7A => Sys2Proof.Machine.execPly_s_7A s
  | .nop_7B => Sys2Proof.Machine.execNop_7B s
  | .jmp_ind_a_x_7C => Sys2Proof.Machine.execJmp_ind_a_x_7C s
  | .adc_a_x_7D => Sys2Proof.Machine.execAdc_a_x_7D s
  | .ror_a_x_7E => Sys2Proof.Machine.execRor_a_x_7E s
  | .bbr7_r_7F => Sys2Proof.Machine.execBbr7_r_7F s
  | .bra_r_80 => Sys2Proof.Machine.execBra_r_80 s
  | .sta_ind_zp_x_81 => Sys2Proof.Machine.execSta_ind_zp_x_81 s
  | .nop_2_82 => Sys2Proof.Machine.execNop_2_82 s
  | .nop_83 => Sys2Proof.Machine.execNop_83 s
  | .sty_zp_84 => Sys2Proof.Machine.execSty_zp_84 s
  | .sta_zp_85 => Sys2Proof.Machine.execSta_zp_85 s
  | .stx_zp_86 => Sys2Proof.Machine.execStx_zp_86 s
  | .smb0_zp_87 => Sys2Proof.Machine.execSmb0_zp_87 s
  | .dey_i_88 => Sys2Proof.Machine.execDey_i_88 s
  | .bit_89 => Sys2Proof.Machine.execBit_89 s
  | .txa_i_8A => Sys2Proof.Machine.execTxa_i_8A s
  | .nop_8B => Sys2Proof.Machine.execNop_8B s
  | .sty_a_8C => Sys2Proof.Machine.execSty_a_8C s
  | .sta addr => Sys2Proof.Machine.execSta addr s
  | .stx_a_8E => Sys2Proof.Machine.execStx_a_8E s
  | .bbs0_r_8F => Sys2Proof.Machine.execBbs0_r_8F s
  | .bcc_r_90 => Sys2Proof.Machine.execBcc_r_90 s
  | .sta_ind_zp_y_91 => Sys2Proof.Machine.execSta_ind_zp_y_91 s
  | .sta_ind_zp_92 => Sys2Proof.Machine.execSta_ind_zp_92 s
  | .nop_93 => Sys2Proof.Machine.execNop_93 s
  | .sty_zp_x_94 => Sys2Proof.Machine.execSty_zp_x_94 s
  | .sta_zp_x_95 => Sys2Proof.Machine.execSta_zp_x_95 s
  | .stx_zp_y_96 => Sys2Proof.Machine.execStx_zp_y_96 s
  | .smb1_zp_97 => Sys2Proof.Machine.execSmb1_zp_97 s
  | .tya_i_98 => Sys2Proof.Machine.execTya_i_98 s
  | .sta_a_y_99 => Sys2Proof.Machine.execSta_a_y_99 s
  | .txs_i_9A => Sys2Proof.Machine.execTxs_i_9A s
  | .nop_9B => Sys2Proof.Machine.execNop_9B s
  | .stz_a_9C => Sys2Proof.Machine.execStz_a_9C s
  | .sta_a_x_9D => Sys2Proof.Machine.execSta_a_x_9D s
  | .stz_a_x_9E => Sys2Proof.Machine.execStz_a_x_9E s
  | .bbs1_r_9F => Sys2Proof.Machine.execBbs1_r_9F s
  | .ldy_A0 => Sys2Proof.Machine.execLdy_A0 s
  | .lda_ind_zp_x_A1 => Sys2Proof.Machine.execLda_ind_zp_x_A1 s
  | .ldx_A2 => Sys2Proof.Machine.execLdx_A2 s
  | .nop_A3 => Sys2Proof.Machine.execNop_A3 s
  | .ldy_zp_A4 => Sys2Proof.Machine.execLdy_zp_A4 s
  | .lda_zp_A5 => Sys2Proof.Machine.execLda_zp_A5 s
  | .ldx_zp_A6 => Sys2Proof.Machine.execLdx_zp_A6 s
  | .smb2_zp_A7 => Sys2Proof.Machine.execSmb2_zp_A7 s
  | .tay_i_A8 => Sys2Proof.Machine.execTay_i_A8 s
  | .ldaImm v => Sys2Proof.Machine.execLdaImm v s
  | .tax_i_AA => Sys2Proof.Machine.execTax_i_AA s
  | .nop_AB => Sys2Proof.Machine.execNop_AB s
  | .ldy_a_AC => Sys2Proof.Machine.execLdy_a_AC s
  | .ldaAbs addr => Sys2Proof.Machine.execLdaAbs addr s
  | .ldx_a_AE => Sys2Proof.Machine.execLdx_a_AE s
  | .bbs2_r_AF => Sys2Proof.Machine.execBbs2_r_AF s
  | .bcs_r_B0 => Sys2Proof.Machine.execBcs_r_B0 s
  | .lda_ind_zp_y_B1 => Sys2Proof.Machine.execLda_ind_zp_y_B1 s
  | .lda_ind_zp_B2 => Sys2Proof.Machine.execLda_ind_zp_B2 s
  | .nop_B3 => Sys2Proof.Machine.execNop_B3 s
  | .ldy_zp_x_B4 => Sys2Proof.Machine.execLdy_zp_x_B4 s
  | .lda_zp_x_B5 => Sys2Proof.Machine.execLda_zp_x_B5 s
  | .ldx_zp_y_B6 => Sys2Proof.Machine.execLdx_zp_y_B6 s
  | .smb3_zp_B7 => Sys2Proof.Machine.execSmb3_zp_B7 s
  | .clv => Sys2Proof.Machine.execClv s
  | .lda_a_y_B9 => Sys2Proof.Machine.execLda_a_y_B9 s
  | .tsx_i_BA => Sys2Proof.Machine.execTsx_i_BA s
  | .nop_BB => Sys2Proof.Machine.execNop_BB s
  | .ldy_a_x_BC => Sys2Proof.Machine.execLdy_a_x_BC s
  | .lda_a_x_BD => Sys2Proof.Machine.execLda_a_x_BD s
  | .ldx_a_y_BE => Sys2Proof.Machine.execLdx_a_y_BE s
  | .bbs3_r_BF => Sys2Proof.Machine.execBbs3_r_BF s
  | .cpy_C0 => Sys2Proof.Machine.execCpy_C0 s
  | .cmp_ind_zp_x_C1 => Sys2Proof.Machine.execCmp_ind_zp_x_C1 s
  | .nop_2_C2 => Sys2Proof.Machine.execNop_2_C2 s
  | .nop_C3 => Sys2Proof.Machine.execNop_C3 s
  | .cpy_zp_C4 => Sys2Proof.Machine.execCpy_zp_C4 s
  | .cmp_zp_C5 => Sys2Proof.Machine.execCmp_zp_C5 s
  | .dec_zp_C6 => Sys2Proof.Machine.execDec_zp_C6 s
  | .smb4_zp_C7 => Sys2Proof.Machine.execSmb4_zp_C7 s
  | .iny_i_C8 => Sys2Proof.Machine.execIny_i_C8 s
  | .cmpImm v => Sys2Proof.Machine.execCmpImm v s
  | .dex_i_CA => Sys2Proof.Machine.execDex_i_CA s
  | .wai_i_CB => Sys2Proof.Machine.execWai_i_CB s
  | .cpy_a_CC => Sys2Proof.Machine.execCpy_a_CC s
  | .cmpAbs addr => Sys2Proof.Machine.execCmpAbs addr s
  | .dec_a_CE => Sys2Proof.Machine.execDec_a_CE s
  | .bbs4_r_CF => Sys2Proof.Machine.execBbs4_r_CF s
  | .bne_r_D0 => Sys2Proof.Machine.execBne_r_D0 s
  | .cmp_ind_zp_y_D1 => Sys2Proof.Machine.execCmp_ind_zp_y_D1 s
  | .cmp_ind_zp_D2 => Sys2Proof.Machine.execCmp_ind_zp_D2 s
  | .nop_D3 => Sys2Proof.Machine.execNop_D3 s
  | .nop_zp_x_D4 => Sys2Proof.Machine.execNop_zp_x_D4 s
  | .cmp_zp_x_D5 => Sys2Proof.Machine.execCmp_zp_x_D5 s
  | .dec_zp_x_D6 => Sys2Proof.Machine.execDec_zp_x_D6 s
  | .smb5_zp_D7 => Sys2Proof.Machine.execSmb5_zp_D7 s
  | .cld => Sys2Proof.Machine.execCld s
  | .cmp_a_y_D9 => Sys2Proof.Machine.execCmp_a_y_D9 s
  | .phx_s_DA => Sys2Proof.Machine.execPhx_s_DA s
  | .stp_i_DB => Sys2Proof.Machine.execStp_i_DB s
  | .nop_a_DC => Sys2Proof.Machine.execNop_a_DC s
  | .cmp_a_x_DD => Sys2Proof.Machine.execCmp_a_x_DD s
  | .dec_a_x_DE => Sys2Proof.Machine.execDec_a_x_DE s
  | .bbs5_r_DF => Sys2Proof.Machine.execBbs5_r_DF s
  | .cpx_E0 => Sys2Proof.Machine.execCpx_E0 s
  | .sbc_ind_zp_x_E1 => Sys2Proof.Machine.execSbc_ind_zp_x_E1 s
  | .nop_2_E2 => Sys2Proof.Machine.execNop_2_E2 s
  | .nop_E3 => Sys2Proof.Machine.execNop_E3 s
  | .cpx_zp_E4 => Sys2Proof.Machine.execCpx_zp_E4 s
  | .sbc_zp_E5 => Sys2Proof.Machine.execSbc_zp_E5 s
  | .inc_zp_E6 => Sys2Proof.Machine.execInc_zp_E6 s
  | .smb6_zp_E7 => Sys2Proof.Machine.execSmb6_zp_E7 s
  | .inx_i_E8 => Sys2Proof.Machine.execInx_i_E8 s
  | .sbcImm v => Sys2Proof.Machine.execSbcImm v s
  | .nop_i_EA => Sys2Proof.Machine.execNop_i_EA s
  | .nop_EB => Sys2Proof.Machine.execNop_EB s
  | .cpx_a_EC => Sys2Proof.Machine.execCpx_a_EC s
  | .sbcAbs addr => Sys2Proof.Machine.execSbcAbs addr s
  | .inc_a_EE => Sys2Proof.Machine.execInc_a_EE s
  | .bbs6_r_EF => Sys2Proof.Machine.execBbs6_r_EF s
  | .beq_r_F0 => Sys2Proof.Machine.execBeq_r_F0 s
  | .sbc_ind_zp_y_F1 => Sys2Proof.Machine.execSbc_ind_zp_y_F1 s
  | .sbc_ind_zp_F2 => Sys2Proof.Machine.execSbc_ind_zp_F2 s
  | .nop_F3 => Sys2Proof.Machine.execNop_F3 s
  | .nop_zp_x_F4 => Sys2Proof.Machine.execNop_zp_x_F4 s
  | .sbc_zp_x_F5 => Sys2Proof.Machine.execSbc_zp_x_F5 s
  | .inc_zp_x_F6 => Sys2Proof.Machine.execInc_zp_x_F6 s
  | .smb7_zp_F7 => Sys2Proof.Machine.execSmb7_zp_F7 s
  | .sed => Sys2Proof.Machine.execSed s
  | .sbc_a_y_F9 => Sys2Proof.Machine.execSbc_a_y_F9 s
  | .plx_s_FA => Sys2Proof.Machine.execPlx_s_FA s
  | .nop_FB => Sys2Proof.Machine.execNop_FB s
  | .nop_a_FC => Sys2Proof.Machine.execNop_a_FC s
  | .sbc_a_x_FD => Sys2Proof.Machine.execSbc_a_x_FD s
  | .inc_a_x_FE => Sys2Proof.Machine.execInc_a_x_FE s
  | .bbs7_r_FF => Sys2Proof.Machine.execBbs7_r_FF s

end Sys2Proof.Machine
end

