-- ==== Sys2Proof/Machine/Boundary.lean ====
section
/-! DEFINITION. When a whole instruction, or a whole interrupt sequence, runs at once: the conditions of `40_engine.md`
R113 and `60_exceptions.md` R219, and the bytes the coming instruction is read from. -/

namespace Sys2Proof.Machine

/-- The ticks an instruction takes: its declared length (`30_encoding.md` R77, `70_reset_and_hazards.md` R255); an
unimplemented opcode faults at its first (`47_unimplemented.md` R200). -/
def ticks (i : Instr) : Nat := ((microProgram i.opcode).map List.length).getD 1

/-- RESB is high at each of the next `n` ticks. -/
def State.resbHigh (s : State) (n : Nat) : Bool := (s.inputs.take n).all fun i => i.resb

/-- A fetch is queued: the next tick is a SYNC tick, the first of an instruction (`40_engine.md` R96, R113). -/
def State.fetchQueued (s : State) : Bool := pin s.pins .sync

/-- The pending flags the next SYNC tick finds after recognition (`40_engine.md` R97, R98): what it samples itself enters
at bit 0 and is too young to count. -/
def State.pendingAtSync (s : State) : BitVec 3 := recognised s.core.brkFlags s.core.irqPip s.core.nmiPip

/-- The readable bytes at `a` and after it, at most `n`, ending before the first unmapped one; addresses wrap
(`20_memory.md` R60). -/
def State.bytesAt (s : State) : Nat → Word → List Byte
  | 0, _ => []
  | n + 1, a =>
    match s.readByte a with
    | some v => v :: State.bytesAt s n (a + 1#16)
    | none => []

/-- The bytes of the coming instruction: the opcode the host has put on the data pins (`40_engine.md` R96), then the
operand bytes at PC + 1 and PC + 2 (R107, R108; log 9). -/
def State.instrBytes (s : State) : List Byte := getData s.pins :: s.bytesAt 2 (s.core.pc + 1#16)

/-- The instruction that runs whole at the next step: a fetch is queued, nothing is pending at its SYNC tick, its bytes
are readable, and RESB is high at each of its ticks (`40_engine.md` R113). -/
def State.nextInstr (s : State) : Option Instr :=
  if s.fetchQueued && decide (s.pendingAtSync = 0#3) then
    match decode s.instrBytes with
    | .ok (i, _) => if s.resbHigh (ticks i) then some i else none
    | .error _ => none
  else none

/-- An interrupt sequence runs whole at the next step: a fetch is queued, a flag is pending at its SYNC tick, and RESB is
high at each of the sequence's 7 ticks (`60_exceptions.md` R219, R220). -/
def State.interruptNext (s : State) : Bool := s.fetchQueued && decide (s.pendingAtSync ≠ 0#3) && s.resbHigh 7

/-- Store a list of bytes at `a` and after it, whatever the map says: the host loading memory. -/
def Memory.load (m : Memory) : Word → List Byte → Memory
  | _, [] => m
  | a, v :: rest => Memory.load (m.write a.toNat v) (a + 1#16) rest

end Sys2Proof.Machine
end

