-- ==== Sys2Proof/Machine/Step.lean ====
section
/-! DEFINITION. One step of the machine: a whole instruction or a whole interrupt sequence where the spec gives it as one
composition of ticks (`40_engine.md` R113, `60_exceptions.md` R228), and one system cycle everywhere else: in the middle
of an instruction, around a tick with RESB low, where an operand byte is unmapped (log 9). Either way it is a number of
system cycles (`Obligations.StepIsSystemCycles`). -/

namespace Sys2Proof.Machine

/-- One step. A dead core stops with its fault again (`60_exceptions.md` R212). -/
def step (s : State) : Host.Outcome State Fault Refusal :=
  match s.core.fault with
  | some f => .fault (.engine f)
  | none =>
    match s.nextInstr with
    | some i => exec i s
    | none => if s.interruptNext then s.takeInterrupt else s.cycle

/-- The host has loaded an instruction where the next step fetches: its bytes are in memory at PC, its opcode is on the
data pins of a queued fetch at PC, nothing is pending, no input is scheduled, and the core is alive (log 6). -/
def State.withFetchWord (s : State) (nbits w : Nat) : State :=
  let bytes := bytesOfBits 3 (w % 2 ^ nbits)
  { s with
    core :=
      { s.core with
        brkFlags := 0#3, irqPip := keepYoung s.core.irqPip, nmiPip := keepYoung s.core.nmiPip, fault := none },
    pins := setData (beginFetch (beginRead s.pins) s.core.pc) (bytes.headD 0x00#8),
    mem := s.mem.load s.core.pc bytes,
    inputs := [] }

end Sys2Proof.Machine
end

