-- ==== Sys2Proof/Safety.lean ====
section
/-! DEFINITION. The terms in which claims are made: where an instruction starts and when it runs whole (`40_engine.md`
R113), which addresses answer a read (`20_memory.md` R58), what a step leaves unchanged, and the invariant of the reference
system, whose host meets its duties (`70_reset_and_hazards.md` R246). -/

namespace Sys2Proof.Machine

/-- A read at this address answers: some region maps it (`20_memory.md` R58). -/
abbrev State.Mapped (s : State) (a : Word) : Prop := (kindAt s.map a).isSome = true

/-- A write at this address is kept: a RAM region maps it (`20_memory.md` R58). -/
abbrev State.Writable (s : State) (a : Word) : Prop := kindAt s.map a = some .ram

/-- The stack location of a value of S (`10_state.md` R12). -/
def stackSlot (sp : Byte) : Word := 0x0100#16 ||| sp.setWidth 16

/-- An instruction starts at `a` in this state (`40_engine.md` R113): SYNC = 1, RWB = 1, the address pins and PC are `a`,
and the data pins carry the byte at `a`. -/
abbrev State.StartsAt (s : State) (a : Word) : Prop :=
  s.core.pc = a ∧ pin s.pins .sync = true ∧ pin s.pins .rwb = true ∧ getAddress s.pins = a ∧
    s.readByte a = some (getData s.pins)

/-- The conditions of `40_engine.md` R113 under which the instruction `i` at PC runs whole: the core is alive, an
instruction starts at PC, the bytes there decode to `i`, RESB stays high, and nothing is pending at the SYNC tick. -/
abbrev State.RunsWhole (s : State) (i : Instr) : Prop :=
  s.core.fault = none ∧ s.StartsAt s.core.pc ∧ (∃ rest, decode (s.bytesAt 3 s.core.pc) = .ok (i, rest)) ∧
    s.resbHigh (ticks i) = true ∧ s.pendingAtSync = 0#3

/-- Every byte of memory reads as before. -/
abbrev State.SameMemory (s t : State) : Prop := ∀ a, t.readByte a = s.readByte a

/-- Every byte of memory outside the stored addresses reads as before. -/
abbrev State.SameMemoryBut (s t : State) (stored : List Word) : Prop := ∀ a, a ∉ stored → t.readByte a = s.readByte a

/-- What a write cycle of `v` at `a` leaves there: the byte where RAM is (in canonical memory), and nothing changed where
the write is dropped (`20_memory.md` R58). -/
abbrev State.Stored (s t : State) (a : Word) (v : Byte) : Prop :=
  (s.mem.wf = true → s.Writable a → t.readByte a = some v) ∧ (¬ s.Writable a → t.readByte a = s.readByte a)

/-- Every flag but these, reserved bit 5 included, keeps its value. -/
abbrev State.KeepsFlags (s t : State) (but : List Flag) : Prop := ∀ f, f ∉ but → flag t.core.p f = flag s.core.p f

/-- What every instruction and every interrupt sequence ends with (`40_engine.md` R101, R103, R113): the next instruction
starts at `pc`, IR holds the opcode and its declared length, the snapshot is the vector returned, `len` inputs are
consumed, and X, Y, the fault mark and the memory map are unchanged. -/
abbrev State.Ends (s t : State) (opcode : Byte) (len : Nat) (pc : Word) : Prop :=
  t.StartsAt pc ∧ t.core.ir = ⟨opcode, BitVec.ofNat 3 len⟩ ∧ t.pins = setData t.core.pinsPrev (getData t.pins) ∧
    t.inputs = s.inputs.drop len ∧ t.core.x = s.core.x ∧ t.core.y = s.core.y ∧ t.core.fault = s.core.fault ∧
    t.map = s.map

/-- The flags an instruction may write (`10_state.md` R15). -/
def flagsWritten : Instr → List Flag
  | .adcImm _ | .adcAbs _ | .sbcImm _ | .sbcAbs _ => [.c, .z, .v, .n]
  | .cmpImm _ | .cmpAbs _ => [.c, .z, .n]
  | .aslAcc | .aslAbs _ | .rolAcc | .rolAbs _ | .lsrAcc | .lsrAbs _ | .rorAcc | .rorAbs _ => [.c, .z, .n]
  | .ldaImm _ | .ldaAbs _ | .oraImm _ | .oraAbs _ | .andImm _ | .andAbs _ | .eorImm _ | .eorAbs _ => [.z, .n]
  | .clc | .sec => [.c]
  | .cli | .sei => [.i]
  | .cld | .sed => [.d]
  | .clv => [.v]
  | .brk => [.i, .b]
  | _ => []

/-- The instructions that write A (`10_state.md` R10). -/
def writesA : Instr → Bool
  | .ldaImm _ | .ldaAbs _ | .oraImm _ | .oraAbs _ | .andImm _ | .andAbs _ | .eorImm _ | .eorAbs _ => true
  | .adcImm _ | .adcAbs _ | .sbcImm _ | .sbcAbs _ | .aslAcc | .rolAcc | .lsrAcc | .rorAcc => true
  | _ => false

/-- How far an instruction moves S down (`45_jump.md` R172). -/
def stackBytes : Instr → Byte
  | .jsr _ => 2#8
  | .brk => 3#8
  | _ => 0#8

/-- The 33 admitted opcode values (`00_scope.md` R6, `30_encoding.md` R77). -/
def admittedOpcodes : List Byte :=
  [0x00#8, 0x09#8, 0x0D#8, 0x29#8, 0x2D#8, 0x49#8, 0x4D#8, 0x69#8, 0x6D#8, 0xE9#8, 0xED#8, 0xC9#8, 0xCD#8, 0xA9#8,
   0xAD#8, 0x8D#8] ++
  [0x0A#8, 0x0E#8, 0x2A#8, 0x2E#8, 0x4A#8, 0x4E#8, 0x6A#8, 0x6E#8, 0x4C#8, 0x20#8, 0x18#8, 0x38#8, 0x58#8, 0x78#8,
   0xB8#8, 0xD8#8, 0xF8#8]

/-- The bits of the pin vector that the engine neither reads nor drives: VPB, RDY, PHI1O, MLB, NC, BE, SOB, PHI2O, VCC,
GND, and bits 63:40 (`10_state.md` R26 to R28). -/
abbrev ignoredBit (k : Nat) : Prop := k ∈ [0, 1, 2, 4, 32, 33, 35, 36, 38, 39] ∨ 40 ≤ k

/-- The declared length of an opcode's micro-program, 0 if it has none (`40_engine.md` R100, `30_encoding.md` R77). -/
def programLength (op : Byte) : Nat := ((microProgram op).map List.length).getD 0

/-- IR and the pins agree: the opcode is admitted, the step is at most the declared length, and SYNC is high exactly after
the final step (`40_engine.md` R100, R101; `70_reset_and_hazards.md` R254). -/
abbrev State.InStep (s : State) : Prop :=
  0 < programLength s.core.ir.opcode ∧ s.core.ir.step.toNat ≤ programLength s.core.ir.opcode ∧
    (pin s.pins .sync = true ↔ s.core.ir.step.toNat = programLength s.core.ir.opcode)

/-- The invariant of the reference system: canonical memory, a live core, IR in step with the pins, and SYNC high only
where an instruction starts. -/
abbrev State.Inv (s : State) : Prop :=
  s.mem.wf = true ∧ s.core.fault = none ∧ s.InStep ∧ (pin s.pins .sync = true → s.StartsAt s.core.pc)

/-- A run of `n` steps that neither faults nor is refused. -/
def State.SafeFor : Nat → State → Prop
  | 0, _ => True
  | n + 1, s => ∃ t, step s = .next t ∧ State.SafeFor n t

end Sys2Proof.Machine
end

