-- ==== Sys2Proof/Certificates/Slice0/Obligations.lean ====
section
/-! DEFINITION. The statements for the provers. Each docstring names the rule of the spec it formalises, or, where it rests
on a choice of this model, the log entry; where a rule is one the spec marks as its own decision, the docstring names the
decision of `92_eei_decisions.md` (log 17). "Answers" means that `exec`, `step` or `cycles` gives a next state. -/

open Sys2Proof Sys2Proof.Machine

/-! ### Encoding -/

/-- Decoding the bytes of an instruction, whatever follows them, gives it back with every operand (`30_encoding.md` R70 to
R78). It holds of all 256 constructors and of every operand value. Decisions D2 of the spec (log 17). -/
def Obligations.DecodeOfEncodeIsIdentity : Prop :=
  ∀ (i : Instr) (rest : List Byte), decode (encode i ++ rest) = .ok (i, rest)

/-- No two byte strings decode to one instruction: what was decoded is the encoding of the result (`30_encoding.md` R78,
R204: the whole opcode byte is matched). Decisions D2 of the spec (log 17). -/
def Obligations.EncodeOfDecodeIsIdentity : Prop :=
  ∀ (bytes rest : List Byte) (i : Instr), decode bytes = .ok (i, rest) → encode i ++ rest = bytes

/-- Every opcode byte decodes, to an instruction of that opcode, and that instruction is admitted exactly for the 33 values
of R77 (`30_encoding.md` R78, R79, `47_unimplemented.md` R204). Decisions D1, D2 of the spec (log 17). -/
def Obligations.DecoderAdmitsExactlyTheTable : Prop :=
  ∀ (op l h : Byte) (rest : List Byte),
    ∃ i r, decode (op :: l :: h :: rest) = .ok (i, r) ∧ i.opcode = op ∧ (i.admitted = true ↔ op ∈ admittedOpcodes)

/-- Words with the spec's opcode values decode to the instructions they stand for (`30_encoding.md` R77, R81;
`42_load_store.md` R130 to R132; `45_jump.md` R170, R171; decisions D1, D2 of the spec, log 17). That the byte after a BRK is
left over is the model's choice (log 8: R75 leaves one or two bytes open), and so is that an unimplemented opcode is one byte
(log 14: R80 defines no length for it). -/
def Obligations.SpecWordsDecode : Prop :=
  decode [0xA9#8, 0x00#8] = .ok (.ldaImm 0x00#8, []) ∧ decode [0xAD#8, 0x34#8, 0x12#8] = .ok (.ldaAbs 0x1234#16, []) ∧
    decode [0x8D#8, 0x00#8, 0x02#8] = .ok (.sta 0x0200#16, []) ∧ decode [0x38#8] = .ok (.sec, []) ∧
    decode [0x0A#8] = .ok (.aslAcc, []) ∧ decode [0x0E#8, 0x00#8, 0x02#8] = .ok (.aslAbs 0x0200#16, []) ∧
    decode [0x4C#8, 0x34#8, 0x12#8] = .ok (.jmp 0x1234#16, []) ∧ decode [0x20#8, 0x00#8, 0x90#8] = .ok (.jsr 0x9000#16, []) ∧
    decode [0x00#8, 0xEA#8] = .ok (.brk, [0xEA#8]) ∧ decode [0xEA#8] = .ok (.nop_i_EA, [])

/-! ### Pins -/

/-- The laws of the codec (`20_memory.md` R50): round trip, and no bit outside its own field changes. -/
def Obligations.PinCodecLaws : Prop :=
  ∀ (p : Pins) (a : Word) (d : Byte),
    getAddress (setAddress p a) = a ∧ getData (setData p d) = d ∧
      getData (setAddress p a) = getData p ∧ getAddress (setData p d) = getAddress p ∧
      (∀ k, k < 7 ∨ 22 < k → (setAddress p a).getLsbD k = p.getLsbD k) ∧
      (∀ k, k < 23 ∨ 30 < k → (setData p d).getLsbD k = p.getLsbD k)

/-- `begin_fetch` sets the address and raises SYNC and touches nothing else, and every fetch cycle a tick issues is a read
cycle at PC (`20_memory.md` R49). The spec marks the second half as derived. -/
def Obligations.EveryFetchIsAReadAtPc : Prop :=
  (∀ (p : Pins) (pc : Word), beginFetch p pc = setAddress p pc ||| 0x40#64) ∧
    ∀ (c c' : Core) (p p' : Pins),
      pin c.pinsPrev .phi2 = false → pin p .phi2 = true → tick c p = .returned c' p' → pin p' .sync = true →
        pin p' .rwb = true ∧ getAddress p' = c'.pc

/-! ### The engine tick -/

/-- A call that is not a rising edge changes no register, flag or pipeline, returns the vector bit for bit, and refreshes
the snapshot's PHI2 alone (`40_engine.md` R91). Decisions D11 of the spec (log 17). -/
def Obligations.NoEdgeCallChangesNothing : Prop :=
  ∀ (c : Core) (p : Pins),
    c.fault = none → ¬ (pin c.pinsPrev .phi2 = false ∧ pin p .phi2 = true) →
      ∃ c', tick c p = .returned c' p ∧ { c' with pinsPrev := c.pinsPrev } = c ∧
        ∀ k, c'.pinsPrev.getLsbD k = if k = 34 then p.getLsbD 34 else c.pinsPrev.getLsbD k

/-- A fault is terminal: the core it leaves carries the mark, raises the same fault at every later call, whatever the
vector, and does not change; the machine stops with it at every step (`60_exceptions.md` R212, `10_state.md` R24).
Decisions D17 of the spec (log 17). -/
def Obligations.FaultsAreTerminal : Prop :=
  (∀ (c c' : Core) (p : Pins) (f : EngineFault), tick c p = .raised f c' →
      c'.fault = some f ∧ ∀ q, tick c' q = .raised f c') ∧
    ∀ (s : State) (f : EngineFault), s.core.fault = some f → step s = .fault (.engine f)

/-- The tick that latches an unadmitted opcode with nothing pending raises `UnimplementedOpcode(opcode, 0)`. The core it
leaves, in every field: IR holds the opcode with step 0, PC is the opcode's address plus 1, each pipeline holds this tick's
sample and keeps its two youngest bits, not aged, and everything else is as it was (`47_unimplemented.md` R200,
`40_engine.md` R93, R94, R96 to R98, R112). Decisions D5, D17 of the spec (log 17). -/
def Obligations.UnimplementedOpcodeFaultsAtItsSyncTick : Prop :=
  ∀ (c : Core) (p : Pins),
    c.fault = none → pin c.pinsPrev .phi2 = false → pin p .phi2 = true → pin p .sync = true → pin p .resb = true →
      recognised c.brkFlags c.irqPip c.nmiPip = 0#3 → getData p ∉ admittedOpcodes →
        ∃ c', tick c p = .raised (.unimplementedOpcode (getData p) 0#3) c' ∧
          c'.ir = ⟨getData p, 0#3⟩ ∧ c'.pc = c.pc + 1#16 ∧ c'.fault = some (.unimplementedOpcode (getData p) 0#3) ∧
          c'.a = c.a ∧ c'.x = c.x ∧ c'.y = c.y ∧ c'.s = c.s ∧ c'.p = c.p ∧ c'.ad = c.ad ∧ c'.brkFlags = 0#3 ∧
          c'.pinsPrev = c.pinsPrev ∧
          c'.irqPip = keepYoung (sampleIrq (flag c.p .i) (pin p .irqb) c.irqPip) ∧
          c'.nmiPip = keepYoung (sampleNmi (pin c.pinsPrev .nmib) (pin p .nmib) c.nmiPip)

/-- Dispatch of a step at or past the declared length raises `UnimplementedOpcode(opcode, step)`. The core it leaves, in
every field: the registers are as the final step left them, and each pipeline holds this tick's sample, not aged
(`47_unimplemented.md` R202, `40_engine.md` R93, R94, R100, R112). Decisions D5, D16, D17 of the spec (log 17). -/
def Obligations.StepOverrunFaults : Prop :=
  ∀ (c : Core) (p : Pins),
    c.fault = none → pin c.pinsPrev .phi2 = false → pin p .phi2 = true → pin p .sync = false → pin p .resb = true →
      programLength c.ir.opcode ≤ c.ir.step.toNat →
        ∃ c', tick c p = .raised (.unimplementedOpcode c.ir.opcode c.ir.step) c' ∧
          c'.ir = c.ir ∧ c'.a = c.a ∧ c'.x = c.x ∧ c'.y = c.y ∧ c'.s = c.s ∧ c'.p = c.p ∧ c'.pc = c.pc ∧ c'.ad = c.ad ∧
          c'.brkFlags = c.brkFlags ∧ c'.pinsPrev = c.pinsPrev ∧
          c'.fault = some (.unimplementedOpcode c.ir.opcode c.ir.step) ∧
          c'.irqPip = sampleIrq (flag c.p .i) (pin p .irqb) c.irqPip ∧
          c'.nmiPip = sampleNmi (pin c.pinsPrev .nmib) (pin p .nmib) c.nmiPip

/-- A tick with RESB low, in the middle of any instruction, SYNC or not, sets the RESET flag, clears B and runs step 0 of
the BRK sequence: a read at PC, with no progress (`40_engine.md` R95). Decisions D24 of the spec (log 17). -/
def Obligations.ResetLowTickRestartsTheSequence : Prop :=
  ∀ (c : Core) (p : Pins),
    c.fault = none → pin c.pinsPrev .phi2 = false → pin p .phi2 = true → pin p .resb = false →
      ∃ c' p', tick c p = .returned c' p' ∧
        c'.ir = ⟨0x00#8, 1#3⟩ ∧ c'.brkFlags &&& 4#3 = 4#3 ∧ flag c'.p .b = false ∧
        (∀ f, f ≠ .b → flag c'.p f = flag c.p f) ∧ c'.pc = c.pc ∧ c'.a = c.a ∧ c'.x = c.x ∧ c'.y = c.y ∧ c'.s = c.s ∧
        c'.ad = c.ad ∧ c'.fault = none ∧ getAddress p' = c.pc ∧ pin p' .rwb = true ∧ pin p' .sync = false ∧
        pin p' .resb = false

/-- The pins without a role and bits 63:40 pass through every call, and two calls that differ in them alone have the same
outcome in everything else (`10_state.md` R27, R28). Decisions D9, D10 of the spec (log 17). -/
def Obligations.IgnoredPinsAreNeitherReadNorDriven : Prop :=
  (∀ (c c' : Core) (p p' : Pins), tick c p = .returned c' p' → ∀ k, ignoredBit k → p'.getLsbD k = p.getLsbD k) ∧
    ∀ (c : Core) (p q : Pins), (∀ k, ¬ ignoredBit k → p.getLsbD k = q.getLsbD k) →
      (∀ f c', tick c p = .raised f c' → tick c q = .raised f c') ∧
        ∀ c' p', tick c p = .returned c' p' →
          ∃ d' q', tick c q = .returned d' q' ∧ { d' with pinsPrev := c'.pinsPrev } = c' ∧
            (∀ k, ¬ ignoredBit k → d'.pinsPrev.getLsbD k = c'.pinsPrev.getLsbD k) ∧
            ∀ k, ¬ ignoredBit k → q'.getLsbD k = p'.getLsbD k

/-- After a rising edge that returned, the opcode in IR is admitted and the step counter is between 1 and its declared
length, at most 7; in the middle of an instruction it is the old one plus 1, with no carry into the opcode
(`40_engine.md` R100, R101). Decisions D3, D16 of the spec (log 17). -/
def Obligations.StepCounterStaysWithinTheDeclaredLength : Prop :=
  ∀ (c c' : Core) (p p' : Pins),
    pin c.pinsPrev .phi2 = false → pin p .phi2 = true → tick c p = .returned c' p' →
      1 ≤ c'.ir.step.toNat ∧ c'.ir.step.toNat ≤ programLength c'.ir.opcode ∧ programLength c'.ir.opcode ≤ 7 ∧
        (pin p .sync = false → pin p .resb = true →
          c'.ir.opcode = c.ir.opcode ∧ c'.ir.step.toNat = c.ir.step.toNat + 1)

/-- What a tick that returns does to the two pipelines (for one that faults, see the statements of the faults): the NMI edge and the masked IRQ level enter at bit 0, a SYNC tick keeps bits 1:0,
and everything moves one place toward bit 15, the top bit being lost (`40_engine.md` R93, R94, R102).
Decisions D5, D8 of the spec (log 17). -/
def Obligations.PipelinesSampleAndAge : Prop :=
  ∀ (c c' : Core) (p p' : Pins),
    pin c.pinsPrev .phi2 = false → pin p .phi2 = true → tick c p = .returned c' p' →
      ∃ irq nmi : BitVec 16,
        irq = (if pin p .irqb = false ∧ flag c.p .i = false then c.irqPip ||| 0x0001#16 else c.irqPip) ∧
        nmi = (if pin c.pinsPrev .nmib = true ∧ pin p .nmib = false then c.nmiPip ||| 0x0001#16 else c.nmiPip) ∧
        c'.irqPip.toNat = (if pin p .sync then irq.toNat % 4 else irq.toNat) * 2 % 65536 ∧
        c'.nmiPip.toNat = (if pin p .sync then nmi.toNat % 4 else nmi.toNat) * 2 % 65536

/-- At a SYNC tick with RESB high: bit 2 of the IRQ pipeline and bits 15:2 of the NMI pipeline, as the previous tick left
them, set the pending flags. With a flag pending the fetched opcode, whatever it is, is thrown away: B is cleared, PC keeps
its address, and step 0 of the BRK sequence reads there. With none pending, an admitted opcode is latched and PC leaves its
address (`40_engine.md` R96 to R98, `60_exceptions.md` R219). Decisions D5 to D7 of the spec (log 17). -/
def Obligations.SyncTickHijacksOrAdvances : Prop :=
  ∀ (c : Core) (p : Pins),
    c.fault = none → pin c.pinsPrev .phi2 = false → pin p .phi2 = true → pin p .sync = true → pin p .resb = true →
      ∀ irq nmi reset : Bool,
        irq = (c.brkFlags.getLsbD 0 || c.irqPip.getLsbD 2) →
        nmi = (c.brkFlags.getLsbD 1 || decide (4 ≤ c.nmiPip.toNat)) →
        reset = c.brkFlags.getLsbD 2 →
          ((irq || nmi || reset) = true →
            ∃ c' p', tick c p = .returned c' p' ∧ c'.ir = ⟨0x00#8, 1#3⟩ ∧ c'.pc = c.pc ∧ getAddress p' = c.pc ∧
              pin p' .rwb = true ∧ pin p' .sync = false ∧ flag c'.p .b = false ∧
              (∀ f, f ≠ .b → flag c'.p f = flag c.p f) ∧
              c'.brkFlags.getLsbD 0 = irq ∧ c'.brkFlags.getLsbD 1 = nmi ∧ c'.brkFlags.getLsbD 2 = reset ∧
              c'.a = c.a ∧ c'.s = c.s ∧ c'.ad = c.ad) ∧
          ((irq || nmi || reset) = false → getData p ∈ admittedOpcodes →
            ∃ c' p', tick c p = .returned c' p' ∧ c'.ir = ⟨getData p, 1#3⟩ ∧ getAddress p' = c.pc + 1#16 ∧
              (c'.pc = c.pc + 1#16 ∨ c'.pc = c.pc + 2#16) ∧ pin p' .rwb = true ∧ pin p' .sync = false ∧ c'.p = c.p ∧
              c'.brkFlags = 0#3 ∧ c'.a = c.a ∧ c'.s = c.s ∧ c'.ad = c.ad)

/-! ### Flag and ALU helpers -/

/-- `set_nz(v)`: Z iff v = 0, N iff bit 7 of v, no other flag changes, and never both (`41_alu.md` R120). -/
def Obligations.SetNzLaw : Prop :=
  ∀ v p : Byte,
    (flag (setNz v p) .z = true ↔ v.toNat = 0) ∧ (flag (setNz v p) .n = true ↔ 128 ≤ v.toNat) ∧
      (∀ f, f ≠ .z → f ≠ .n → flag (setNz v p) f = flag p f) ∧
      ¬ (flag (setNz v p) .z = true ∧ flag (setNz v p) .n = true)

/-- `compare(r, v)`: C iff r ≥ v unsigned, Z and N from the difference mod 256; the old carry is not read and no other flag
changes (`41_alu.md` R121). -/
def Obligations.CompareLaw : Prop :=
  ∀ r v p : Byte,
    (flag (compareFlags r v p) .c = true ↔ v.toNat ≤ r.toNat) ∧ (flag (compareFlags r v p) .z = true ↔ r = v) ∧
      (flag (compareFlags r v p) .n = true ↔ 128 ≤ (256 + r.toNat - v.toNat) % 256) ∧
      ∀ f, f ∉ [Flag.c, .z, .n] → flag (compareFlags r v p) f = flag p f

/-- `adc(v)`: faults when D = 1; else A is the sum with carry mod 256, C its carry out, V the signed overflow, Z and N from
the new A (`41_alu.md` R122). -/
def Obligations.AdcLaw : Prop :=
  ∀ a v p : Byte,
    (flag p .d = true → opAdc a p v = none) ∧
      (flag p .d = false → ∃ a' p', opAdc a p v = some (a', p') ∧
        a'.toNat = (a.toNat + v.toNat + (flag p .c).toNat) % 256 ∧
        (flag p' .c = true ↔ 255 < a.toNat + v.toNat + (flag p .c).toNat) ∧
        (flag p' .v = true ↔ a.toInt + v.toInt + (flag p .c).toNat < -128 ∨ 127 < a.toInt + v.toInt + (flag p .c).toNat) ∧
        (flag p' .z = true ↔ a'.toNat = 0) ∧ (flag p' .n = true ↔ 128 ≤ a'.toNat) ∧
        ∀ f, f ∉ [Flag.c, .z, .v, .n] → flag p' f = flag p f)

/-- `sbc(v)`: faults when D = 1; else A is A minus v minus the borrow mod 256, C says no borrow, V is the signed overflow
(A and v have different signs and the result's sign is not A's), Z and N from the new A (`41_alu.md` R123).
Decisions D4 of the spec (log 17). -/
def Obligations.SbcLaw : Prop :=
  ∀ a v p : Byte,
    (flag p .d = true → opSbc a p v = none) ∧
      (flag p .d = false → ∃ a' p', opSbc a p v = some (a', p') ∧
        (a'.toNat : Int) = ((a.toNat : Int) - v.toNat - (1 - (flag p .c).toNat)) % 256 ∧
        (flag p' .c = true ↔ v.toNat + 1 ≤ a.toNat + (flag p .c).toNat) ∧
        (flag p' .v = true ↔ a.msb ≠ v.msb ∧ a'.msb ≠ a.msb) ∧
        (flag p' .z = true ↔ a'.toNat = 0) ∧ (flag p' .n = true ↔ 128 ≤ a'.toNat) ∧
        ∀ f, f ∉ [Flag.c, .z, .v, .n] → flag p' f = flag p f)

/-- SBC is ADC of the operand's complement, result and every flag (`41_alu.md` R123).
Decisions D4 of the spec (log 17). -/
def Obligations.SbcIsAdcOfTheComplement : Prop := ∀ a v p : Byte, opSbc a p v = opAdc a p (v ^^^ 0xFF#8)

/-- The four shifts: the result, the carry out, Z and N from the result, and no other flag (`41_alu.md` R124, R125, R127,
R128). -/
def Obligations.ShiftLaws : Prop :=
  ∀ v p : Byte,
    ((asl v p).1.toNat = 2 * v.toNat % 256 ∧ (flag (asl v p).2 .c = true ↔ 128 ≤ v.toNat)) ∧
      ((lsr v p).1.toNat = v.toNat / 2 ∧ (flag (lsr v p).2 .c = true ↔ v.toNat % 2 = 1)) ∧
      ((rol v p).1.toNat = (2 * v.toNat + (flag p .c).toNat) % 256 ∧ (flag (rol v p).2 .c = true ↔ 128 ≤ v.toNat)) ∧
      ((ror v p).1.toNat = v.toNat / 2 + 128 * (flag p .c).toNat ∧ (flag (ror v p).2 .c = true ↔ v.toNat % 2 = 1)) ∧
      ∀ op ∈ [asl, lsr, rol, ror],
        (flag (op v p).2 .z = true ↔ (op v p).1.toNat = 0) ∧ (flag (op v p).2 .n = true ↔ 128 ≤ (op v p).1.toNat) ∧
          ∀ f, f ∉ [Flag.c, .z, .n] → flag (op v p).2 f = flag p f

/-! ### Instructions: result, frame and completion -/

/-- LDA, ORA, AND, EOR and CMP immediate complete wherever the next fetch is mapped: A and the flags are what the operation
gives, S, AD, the pending flags and all of memory are unchanged, and the next instruction starts at PC + 2
(`42_load_store.md` R130, `43_logic_arith.md` R140, R142, R144, R150, `41_alu.md` R120, R121).
Decisions D1, D2, D4 of the spec (log 17). -/
def Obligations.ImmediateReadsComplete : Prop :=
  ∀ (v : Byte) (s : State), s.Mapped (s.core.pc + 2#16) →
    (∃ t, exec (.ldaImm v) s = .next t ∧ t.core.a = v ∧ t.core.p = setNz v s.core.p ∧
      t.core.s = s.core.s ∧ t.core.ad = s.core.ad ∧ t.core.brkFlags = s.core.brkFlags ∧ s.SameMemory t ∧
      s.Ends t 0xA9#8 2 (s.core.pc + 2#16)) ∧
    (∃ t, exec (.oraImm v) s = .next t ∧ t.core.a = s.core.a ||| v ∧ t.core.p = setNz (s.core.a ||| v) s.core.p ∧
      t.core.s = s.core.s ∧ t.core.ad = s.core.ad ∧ t.core.brkFlags = s.core.brkFlags ∧ s.SameMemory t ∧
      s.Ends t 0x09#8 2 (s.core.pc + 2#16)) ∧
    (∃ t, exec (.andImm v) s = .next t ∧ t.core.a = s.core.a &&& v ∧ t.core.p = setNz (s.core.a &&& v) s.core.p ∧
      t.core.s = s.core.s ∧ t.core.ad = s.core.ad ∧ t.core.brkFlags = s.core.brkFlags ∧ s.SameMemory t ∧
      s.Ends t 0x29#8 2 (s.core.pc + 2#16)) ∧
    (∃ t, exec (.eorImm v) s = .next t ∧ t.core.a = s.core.a ^^^ v ∧ t.core.p = setNz (s.core.a ^^^ v) s.core.p ∧
      t.core.s = s.core.s ∧ t.core.ad = s.core.ad ∧ t.core.brkFlags = s.core.brkFlags ∧ s.SameMemory t ∧
      s.Ends t 0x49#8 2 (s.core.pc + 2#16)) ∧
    (∃ t, exec (.cmpImm v) s = .next t ∧ t.core.a = s.core.a ∧ t.core.p = compareFlags s.core.a v s.core.p ∧
      t.core.s = s.core.s ∧ t.core.ad = s.core.ad ∧ t.core.brkFlags = s.core.brkFlags ∧ s.SameMemory t ∧
      s.Ends t 0xC9#8 2 (s.core.pc + 2#16))

/-- LDA, ORA, AND, EOR and CMP absolute complete wherever the operand address and the next fetch are mapped: as the
immediate forms with the byte at `addr`, AD ends as `addr`, and the next instruction starts at PC + 3 (`42_load_store.md`
R131, `43_logic_arith.md` R141, R143, R145, R151, `40_engine.md` R108).
Decisions D1, D2, D4 of the spec (log 17). -/
def Obligations.AbsoluteReadsComplete : Prop :=
  ∀ (addr : Word) (v : Byte) (s : State), s.readByte addr = some v → s.Mapped (s.core.pc + 3#16) →
    (∃ t, exec (.ldaAbs addr) s = .next t ∧ t.core.a = v ∧ t.core.p = setNz v s.core.p ∧
      t.core.s = s.core.s ∧ t.core.ad = addr ∧ t.core.brkFlags = s.core.brkFlags ∧ s.SameMemory t ∧
      s.Ends t 0xAD#8 4 (s.core.pc + 3#16)) ∧
    (∃ t, exec (.oraAbs addr) s = .next t ∧ t.core.a = s.core.a ||| v ∧ t.core.p = setNz (s.core.a ||| v) s.core.p ∧
      t.core.s = s.core.s ∧ t.core.ad = addr ∧ t.core.brkFlags = s.core.brkFlags ∧ s.SameMemory t ∧
      s.Ends t 0x0D#8 4 (s.core.pc + 3#16)) ∧
    (∃ t, exec (.andAbs addr) s = .next t ∧ t.core.a = s.core.a &&& v ∧ t.core.p = setNz (s.core.a &&& v) s.core.p ∧
      t.core.s = s.core.s ∧ t.core.ad = addr ∧ t.core.brkFlags = s.core.brkFlags ∧ s.SameMemory t ∧
      s.Ends t 0x2D#8 4 (s.core.pc + 3#16)) ∧
    (∃ t, exec (.eorAbs addr) s = .next t ∧ t.core.a = s.core.a ^^^ v ∧ t.core.p = setNz (s.core.a ^^^ v) s.core.p ∧
      t.core.s = s.core.s ∧ t.core.ad = addr ∧ t.core.brkFlags = s.core.brkFlags ∧ s.SameMemory t ∧
      s.Ends t 0x4D#8 4 (s.core.pc + 3#16)) ∧
    (∃ t, exec (.cmpAbs addr) s = .next t ∧ t.core.a = s.core.a ∧ t.core.p = compareFlags s.core.a v s.core.p ∧
      t.core.s = s.core.s ∧ t.core.ad = addr ∧ t.core.brkFlags = s.core.brkFlags ∧ s.SameMemory t ∧
      s.Ends t 0xCD#8 4 (s.core.pc + 3#16))

/-- ADC and SBC, immediate and absolute, complete in binary mode: A and P are those of the helpers `adc` and `sbc`, and the
rest is as for the other read instructions (`43_logic_arith.md` R146 to R149, `41_alu.md` R122, R123).
Decisions D1, D2, D4 of the spec (log 17). -/
def Obligations.AddAndSubtractComplete : Prop :=
  (∀ (v : Byte) (s : State), flag s.core.p .d = false → s.Mapped (s.core.pc + 2#16) →
    (∃ t, exec (.adcImm v) s = .next t ∧ (t.core.a, t.core.p) = adc s.core.a v s.core.p ∧
      t.core.s = s.core.s ∧ t.core.ad = s.core.ad ∧ t.core.brkFlags = s.core.brkFlags ∧ s.SameMemory t ∧
      s.Ends t 0x69#8 2 (s.core.pc + 2#16)) ∧
    (∃ t, exec (.sbcImm v) s = .next t ∧ (t.core.a, t.core.p) = sbc s.core.a v s.core.p ∧
      t.core.s = s.core.s ∧ t.core.ad = s.core.ad ∧ t.core.brkFlags = s.core.brkFlags ∧ s.SameMemory t ∧
      s.Ends t 0xE9#8 2 (s.core.pc + 2#16))) ∧
  ∀ (addr : Word) (v : Byte) (s : State),
    flag s.core.p .d = false → s.readByte addr = some v → s.Mapped (s.core.pc + 3#16) →
    (∃ t, exec (.adcAbs addr) s = .next t ∧ (t.core.a, t.core.p) = adc s.core.a v s.core.p ∧
      t.core.s = s.core.s ∧ t.core.ad = addr ∧ t.core.brkFlags = s.core.brkFlags ∧ s.SameMemory t ∧
      s.Ends t 0x6D#8 4 (s.core.pc + 3#16)) ∧
    (∃ t, exec (.sbcAbs addr) s = .next t ∧ (t.core.a, t.core.p) = sbc s.core.a v s.core.p ∧
      t.core.s = s.core.s ∧ t.core.ad = addr ∧ t.core.brkFlags = s.core.brkFlags ∧ s.SameMemory t ∧
      s.Ends t 0xED#8 4 (s.core.pc + 3#16))

/-- ADC and SBC with D = 1 fault in their execute step, step 1 immediate and step 3 absolute, whatever the operand's value
(`41_alu.md` R126, `60_exceptions.md` R211). The tick that faults changes no register and no flag: beside the fault mark, the
core it leaves differs in this tick's samples alone (`40_engine.md` R93, R94, R112). Run from the start of the instruction,
the earlier ticks return, the next one faults, and the core it leaves has A, P, X, Y and S as they were, IR at the faulting
step, PC past the instruction, and AD at the operand's address in the absolute form (`43_logic_arith.md` R146 to R149).
Decisions D5, D17 of the spec (log 17). -/
def Obligations.DecimalModeFaults : Prop :=
  (∀ (addr : Word) (v : Byte) (s : State), flag s.core.p .d = true →
    exec (.adcImm v) s = .fault (.engine (.decimalModeUnsupported 0x69#8 1#3)) ∧
    exec (.sbcImm v) s = .fault (.engine (.decimalModeUnsupported 0xE9#8 1#3)) ∧
    (s.Mapped addr →
      exec (.adcAbs addr) s = .fault (.engine (.decimalModeUnsupported 0x6D#8 3#3)) ∧
      exec (.sbcAbs addr) s = .fault (.engine (.decimalModeUnsupported 0xED#8 3#3)))) ∧
  (∀ (c : Core) (p : Pins),
    c.fault = none → pin c.pinsPrev .phi2 = false → pin p .phi2 = true → pin p .sync = false → pin p .resb = true →
      flag c.p .d = true → c.ir ∈ [⟨0x69#8, 1#3⟩, ⟨0xE9#8, 1#3⟩, ⟨0x6D#8, 3#3⟩, ⟨0xED#8, 3#3⟩] →
        ∃ c', tick c p = .raised (.decimalModeUnsupported c.ir.opcode c.ir.step) c' ∧
          c'.ir = c.ir ∧ c'.a = c.a ∧ c'.x = c.x ∧ c'.y = c.y ∧ c'.s = c.s ∧ c'.p = c.p ∧ c'.pc = c.pc ∧ c'.ad = c.ad ∧
          c'.brkFlags = c.brkFlags ∧ c'.pinsPrev = c.pinsPrev ∧
          c'.fault = some (.decimalModeUnsupported c.ir.opcode c.ir.step) ∧
          c'.irqPip = sampleIrq (flag c.p .i) (pin p .irqb) c.irqPip ∧
          c'.nmiPip = sampleNmi (pin c.pinsPrev .nmib) (pin p .nmib) c.nmiPip) ∧
  (∀ (v : Byte) (s : State), flag s.core.p .d = true →
    ∀ e ∈ [(Instr.adcImm v, 0x69#8), (.sbcImm v, 0xE9#8)], s.RunsWhole e.1 →
      ∃ u, s.cycles 1 = .next u ∧ u.cycle = .fault (.engine (.decimalModeUnsupported e.2 1#3)) ∧
        u.coreAfterCycle.a = s.core.a ∧ u.coreAfterCycle.p = s.core.p ∧ u.coreAfterCycle.x = s.core.x ∧
        u.coreAfterCycle.y = s.core.y ∧ u.coreAfterCycle.s = s.core.s ∧ u.coreAfterCycle.pc = s.core.pc + 2#16 ∧
        u.coreAfterCycle.ad = s.core.ad ∧ u.coreAfterCycle.ir = ⟨e.2, 1#3⟩ ∧ u.coreAfterCycle.brkFlags = s.core.brkFlags ∧
        u.coreAfterCycle.fault = some (.decimalModeUnsupported e.2 1#3)) ∧
  ∀ (addr : Word) (s : State), flag s.core.p .d = true → s.Mapped addr →
    ∀ e ∈ [(Instr.adcAbs addr, 0x6D#8), (.sbcAbs addr, 0xED#8)], s.RunsWhole e.1 →
      ∃ u, s.cycles 3 = .next u ∧ u.cycle = .fault (.engine (.decimalModeUnsupported e.2 3#3)) ∧
        u.coreAfterCycle.a = s.core.a ∧ u.coreAfterCycle.p = s.core.p ∧ u.coreAfterCycle.x = s.core.x ∧
        u.coreAfterCycle.y = s.core.y ∧ u.coreAfterCycle.s = s.core.s ∧ u.coreAfterCycle.pc = s.core.pc + 3#16 ∧
        u.coreAfterCycle.ad = addr ∧ u.coreAfterCycle.ir = ⟨e.2, 3#3⟩ ∧ u.coreAfterCycle.brkFlags = s.core.brkFlags ∧
        u.coreAfterCycle.fault = some (.decimalModeUnsupported e.2 3#3)

/-- STA absolute completes wherever the next fetch is mapped, whether or not `addr` is: it stores A at `addr`, every other
byte, A, P and S are unchanged, and no flag is written (`42_load_store.md` R132, `20_memory.md` R58).
Decisions D1, D2, D19 of the spec (log 17). -/
def Obligations.StoreAccumulatorCompletes : Prop :=
  ∀ (addr : Word) (s : State), s.Mapped (s.core.pc + 3#16) →
    ∃ t, exec (.sta addr) s = .next t ∧ s.Stored t addr s.core.a ∧ s.SameMemoryBut t [addr] ∧ t.core.a = s.core.a ∧
      t.core.p = s.core.p ∧ t.core.s = s.core.s ∧ t.core.ad = addr ∧ t.core.brkFlags = s.core.brkFlags ∧
      s.Ends t 0x8D#8 4 (s.core.pc + 3#16)

/-- ASL, ROL, LSR and ROR accumulator complete wherever the next byte is mapped: A and P are those of the helper
(`44_shift_rotate.md` R160, R162, R164, R166). Decisions D1 to D3 of the spec (log 17). -/
def Obligations.AccumulatorShiftsComplete : Prop :=
  ∀ (s : State), s.Mapped (s.core.pc + 1#16) →
    ∀ e ∈ [(Instr.aslAcc, 0x0A#8, asl), (.rolAcc, 0x2A#8, rol), (.lsrAcc, 0x4A#8, lsr), (.rorAcc, 0x6A#8, ror)],
      ∃ t, exec e.1 s = .next t ∧ (t.core.a, t.core.p) = e.2.2 s.core.a s.core.p ∧ t.core.s = s.core.s ∧
        t.core.ad = s.core.ad ∧ t.core.brkFlags = s.core.brkFlags ∧ s.SameMemory t ∧
        s.Ends t e.2.1 2 (s.core.pc + 1#16)

/-- ASL, ROL, LSR and ROR absolute complete wherever `addr` and the next fetch are mapped: the shifted byte is stored at
`addr` (lost if it is not RAM, the flags being those of the shifted value all the same), every other byte, A and S are
unchanged, and AD ends as the byte read (`44_shift_rotate.md` R161, R163, R165, R167, `40_engine.md` R110).
Decisions D1, D2, D4, D19 of the spec (log 17). -/
def Obligations.AbsoluteShiftsComplete : Prop :=
  ∀ (addr : Word) (m : Byte) (s : State), s.readByte addr = some m → s.Mapped (s.core.pc + 3#16) →
    ∀ e ∈ [(Instr.aslAbs addr, 0x0E#8, asl), (.rolAbs addr, 0x2E#8, rol), (.lsrAbs addr, 0x4E#8, lsr),
        (.rorAbs addr, 0x6E#8, ror)],
      ∃ t, exec e.1 s = .next t ∧ s.Stored t addr (e.2.2 m s.core.p).1 ∧ t.core.p = (e.2.2 m s.core.p).2 ∧
        s.SameMemoryBut t [addr] ∧ t.core.a = s.core.a ∧ t.core.s = s.core.s ∧ t.core.ad = m.setWidth 16 ∧
        t.core.brkFlags = s.core.brkFlags ∧ s.Ends t e.2.1 6 (s.core.pc + 3#16)

/-- JMP absolute completes wherever its target is mapped: only PC and AD change (`45_jump.md` R170).
Decisions D1 to D3 of the spec (log 17). -/
def Obligations.JumpCompletes : Prop :=
  ∀ (addr : Word) (s : State), s.Mapped addr →
    ∃ t, exec (.jmp addr) s = .next t ∧ t.core.a = s.core.a ∧ t.core.p = s.core.p ∧ t.core.s = s.core.s ∧
      t.core.ad = (lo addr).setWidth 16 ∧ t.core.brkFlags = s.core.brkFlags ∧ s.SameMemory t ∧ s.Ends t 0x4C#8 3 addr

/-- JSR absolute wherever its last byte still holds the target's high byte after the two pushes: it is neither of the two
stack locations, or it is one that is not RAM, so that the push there is dropped. The address of that last byte is pushed,
high byte first, S goes down by 2, and the target's instruction starts (`45_jump.md` R171, `20_memory.md` R58).
Decisions D1 to D3, D19, D20 of the spec (log 17). -/
def Obligations.SubroutineCallCompletes : Prop :=
  ∀ (addr : Word) (s : State),
    s.Mapped (stackSlot s.core.s) → s.readByte (s.core.pc + 2#16) = some (hi addr) → s.Mapped addr →
      (s.core.pc + 2#16 ∈ [stackSlot s.core.s, stackSlot (s.core.s - 1#8)] → ¬ s.Writable (s.core.pc + 2#16)) →
        ∃ t, exec (.jsr addr) s = .next t ∧
          s.Stored t (stackSlot s.core.s) (hi (s.core.pc + 2#16)) ∧
          s.Stored t (stackSlot (s.core.s - 1#8)) (lo (s.core.pc + 2#16)) ∧
          s.SameMemoryBut t [stackSlot s.core.s, stackSlot (s.core.s - 1#8)] ∧ t.core.s = s.core.s - 2#8 ∧
          t.core.a = s.core.a ∧ t.core.p = s.core.p ∧ t.core.ad = (lo addr).setWidth 16 ∧
          t.core.brkFlags = s.core.brkFlags ∧ s.Ends t 0x20#8 6 addr

/-- JSR absolute whose last byte lies in RAM at one of the two locations it pushes to (where that location is not RAM,
`SubroutineCallCompletes` says what happens): it jumps to the pushed byte and not
to its operand's high byte (`45_jump.md` R171: "sees the pushed value as its high target byte").
Decisions D3, D20 of the spec (log 17). -/
def Obligations.SubroutineCallOverItself : Prop :=
  ∀ (addr : Word) (s : State) (h : Byte),
    s.mem.wf = true → s.Writable (s.core.pc + 2#16) → s.Mapped (stackSlot s.core.s) →
      ((s.core.pc + 2#16 = stackSlot s.core.s ∧ h = hi (s.core.pc + 2#16)) ∨
        (s.core.pc + 2#16 = stackSlot (s.core.s - 1#8) ∧ h = lo (s.core.pc + 2#16))) →
      s.Mapped (join h (lo addr)) →
        ∃ t, exec (.jsr addr) s = .next t ∧ t.readByte (s.core.pc + 2#16) = some h ∧ t.core.s = s.core.s - 2#8 ∧
          t.core.a = s.core.a ∧ t.core.p = s.core.p ∧ t.core.ad = (lo addr).setWidth 16 ∧
          t.core.brkFlags = s.core.brkFlags ∧ s.Stored t (stackSlot s.core.s) (hi (s.core.pc + 2#16)) ∧
          s.Stored t (stackSlot (s.core.s - 1#8)) (lo (s.core.pc + 2#16)) ∧
          s.SameMemoryBut t [stackSlot s.core.s, stackSlot (s.core.s - 1#8)] ∧ s.Ends t 0x20#8 6 (join h (lo addr))

/-- CLC, SEC, CLI, SEI, CLV, CLD and SED complete wherever the next byte is mapped: exactly one bit of P is written
(`46_flag_system.md` R180 to R186). Decisions D1 to D3 of the spec (log 17). -/
def Obligations.FlagInstructionsComplete : Prop :=
  ∀ (s : State), s.Mapped (s.core.pc + 1#16) →
    ∀ e ∈ [(Instr.clc, 0x18#8, Flag.c, false), (.sec, 0x38#8, .c, true), (.cli, 0x58#8, .i, false),
        (.sei, 0x78#8, .i, true), (.clv, 0xB8#8, .v, false), (.cld, 0xD8#8, .d, false), (.sed, 0xF8#8, .d, true)],
      ∃ t, exec e.1 s = .next t ∧ flag t.core.p e.2.2.1 = e.2.2.2 ∧ s.KeepsFlags t [e.2.2.1] ∧ t.core.a = s.core.a ∧
        t.core.s = s.core.s ∧ t.core.ad = s.core.ad ∧ t.core.brkFlags = s.core.brkFlags ∧ s.SameMemory t ∧
        s.Ends t e.2.1 2 (s.core.pc + 1#16)

/-- BRK completes wherever the padding byte, the vector and the handler are mapped: PC + 2 and `P | 0x20` are pushed, S goes
down by 3, I and B are set and no other flag changes, and the handler's instruction starts (`46_flag_system.md` R187,
`60_exceptions.md` R228). Decisions D3, D14, D15, D20 of the spec (log 17). -/
def Obligations.BreakCompletes : Prop :=
  ∀ (s : State) (l h : Byte),
    s.Mapped (s.core.pc + 1#16) → s.readByte 0xFFFE#16 = some l → s.readByte 0xFFFF#16 = some h → s.Mapped (join h l) →
      ∃ t, exec .brk s = .next t ∧
        s.Stored t (stackSlot s.core.s) (hi (s.core.pc + 2#16)) ∧
        s.Stored t (stackSlot (s.core.s - 1#8)) (lo (s.core.pc + 2#16)) ∧
        s.Stored t (stackSlot (s.core.s - 2#8)) (s.core.p ||| 0x20#8) ∧
        s.SameMemoryBut t [stackSlot s.core.s, stackSlot (s.core.s - 1#8), stackSlot (s.core.s - 2#8)] ∧
        t.core.s = s.core.s - 3#8 ∧ t.core.p = s.core.p ||| 0x14#8 ∧ t.core.a = s.core.a ∧ t.core.ad = l.setWidth 16 ∧
        t.core.brkFlags = 0#3 ∧ s.Ends t 0x00#8 7 (join h l)

/-- Each of the 223 instructions without a micro-program stops with `UnimplementedOpcode(opcode, 0)` in every state
(`47_unimplemented.md` R200, R201). Decisions D1, D17 of the spec (log 17). -/
def Obligations.UnimplementedOpcodesStop : Prop :=
  ∀ (i : Instr) (s : State), i.admitted = false →
    exec i s = .fault (.engine (.unimplementedOpcode i.opcode 0#3)) ∧ i.opcode ∉ admittedOpcodes

/-- No instruction is ever refused, and an admitted one stops only at a read of an unmapped address, or, for ADC and SBC, in
decimal mode (`60_exceptions.md` R210, R211, `20_memory.md` R58). Decisions D17, D19 of the spec (log 17). -/
def Obligations.StopsOfAdmittedInstructions : Prop :=
  (∀ (i : Instr) (s : State) (r : Refusal), exec i s ≠ .refused r) ∧
    ∀ (i : Instr) (s : State) (f : Fault), i.admitted = true → exec i s = .fault f →
      (∃ a, f = .unmappedRead a ∧ s.readByte a = none) ∨
        (flag s.core.p .d = true ∧ i.opcode ∈ [0x69#8, 0x6D#8, 0xE9#8, 0xED#8] ∧
          f = .engine (.decimalModeUnsupported i.opcode (if i.opcode ∈ [0x69#8, 0xE9#8] then 1#3 else 3#3)))

/-- A read of an unmapped address ends the run: the operand of an absolute read or shift, the byte after an implied or
accumulator form, the stack byte JSR reads, and the target of JMP (`20_memory.md` R57, R58, R62).
Decisions D19 of the spec (log 17). -/
def Obligations.UnmappedReadsEndTheRun : Prop :=
  ∀ (addr : Word) (s : State),
    (s.readByte addr = none →
      ∀ i ∈ [Instr.ldaAbs addr, .oraAbs addr, .andAbs addr, .eorAbs addr, .adcAbs addr, .sbcAbs addr, .cmpAbs addr,
          .aslAbs addr, .rolAbs addr, .lsrAbs addr, .rorAbs addr, .jmp addr],
        exec i s = .fault (.unmappedRead addr)) ∧
    (s.readByte (s.core.pc + 1#16) = none →
      ∀ i ∈ [Instr.aslAcc, .rolAcc, .lsrAcc, .rorAcc, .clc, .sec, .cli, .sei, .clv, .cld, .sed, .brk],
        exec i s = .fault (.unmappedRead (s.core.pc + 1#16))) ∧
    (s.readByte (stackSlot s.core.s) = none → exec (.jsr addr) s = .fault (.unmappedRead (stackSlot s.core.s)))

/-- With no input scheduled (every line inactive), an instruction of `n` ticks keeps the two youngest samples of each
pipeline and moves them `n` places (`40_engine.md` R93, R94, R97, R102). Decisions D5, D8 of the spec (log 17). -/
def Obligations.QuietLinesAgeThePipelines : Prop :=
  ∀ (i : Instr) (s t : State), s.inputs = [] → exec i s = .next t →
    t.core.irqPip.toNat = s.core.irqPip.toNat % 4 * 2 ^ ticks i ∧
      t.core.nmiPip.toNat = s.core.nmiPip.toNat % 4 * 2 ^ ticks i

/-! ### Interrupts -/

/-- IRQ entry: at a SYNC tick that recognises an IRQ and nothing else, the step runs the BRK sequence in place of the
fetched opcode: PC itself and the status with B = 0 and bit 5 = 1 are pushed, I and B are set, the flags are cleared, and
the handler at 0xFFFE starts (`60_exceptions.md` R219, R222 to R228).
Decisions D3, D5, D6, D14, D15, D20 of the spec (log 17). -/
def Obligations.IrqEntry : Prop :=
  ∀ (s : State) (l h : Byte),
    s.core.fault = none → pin s.pins .sync = true → s.resbHigh 7 = true →
      (s.core.brkFlags.getLsbD 0 = true ∨ s.core.irqPip.getLsbD 2 = true) → s.core.brkFlags.getLsbD 1 = false →
      s.core.nmiPip.toNat < 4 → s.core.brkFlags.getLsbD 2 = false →
      s.Mapped s.core.pc → s.readByte 0xFFFE#16 = some l → s.readByte 0xFFFF#16 = some h → s.Mapped (join h l) →
        ∃ t, step s = .next t ∧
          s.Stored t (stackSlot s.core.s) (hi s.core.pc) ∧ s.Stored t (stackSlot (s.core.s - 1#8)) (lo s.core.pc) ∧
          s.Stored t (stackSlot (s.core.s - 2#8)) ((s.core.p &&& 0xEF#8) ||| 0x20#8) ∧
          s.SameMemoryBut t [stackSlot s.core.s, stackSlot (s.core.s - 1#8), stackSlot (s.core.s - 2#8)] ∧
          t.core.s = s.core.s - 3#8 ∧ t.core.p = s.core.p ||| 0x14#8 ∧ t.core.a = s.core.a ∧
          t.core.ad = l.setWidth 16 ∧ t.core.brkFlags = 0#3 ∧ s.Ends t 0x00#8 7 (join h l)

/-- NMI entry: as IRQ entry with the vector at 0xFFFA, whether or not an IRQ is pending too, and whatever I is
(`60_exceptions.md` R214, R218, R222 to R228). Decisions D3, D5, D14, D15, D20, D25 of the spec (log 17). -/
def Obligations.NmiEntry : Prop :=
  ∀ (s : State) (l h : Byte),
    s.core.fault = none → pin s.pins .sync = true → s.resbHigh 7 = true →
      (s.core.brkFlags.getLsbD 1 = true ∨ 4 ≤ s.core.nmiPip.toNat) → s.core.brkFlags.getLsbD 2 = false →
      s.Mapped s.core.pc → s.readByte 0xFFFA#16 = some l → s.readByte 0xFFFB#16 = some h → s.Mapped (join h l) →
        ∃ t, step s = .next t ∧
          s.Stored t (stackSlot s.core.s) (hi s.core.pc) ∧ s.Stored t (stackSlot (s.core.s - 1#8)) (lo s.core.pc) ∧
          s.Stored t (stackSlot (s.core.s - 2#8)) ((s.core.p &&& 0xEF#8) ||| 0x20#8) ∧
          s.SameMemoryBut t [stackSlot s.core.s, stackSlot (s.core.s - 1#8), stackSlot (s.core.s - 2#8)] ∧
          t.core.s = s.core.s - 3#8 ∧ t.core.p = s.core.p ||| 0x14#8 ∧ t.core.a = s.core.a ∧
          t.core.ad = l.setWidth 16 ∧ t.core.brkFlags = 0#3 ∧ s.Ends t 0x00#8 7 (join h l)

/-- A SYNC tick that finds RESET pending, whatever else is, with RESB high: the vector is 0xFFFC, the three pushes are reads
at the same stack locations, the seven bus cycles are all reads, and memory is unchanged (`60_exceptions.md` R218, R221 to
R228). In the reference system no run reaches such a state, since step 4 clears the flag before the next fetch (R225): it is
one a host seeds (`10_state.md` R36). The reset that a run can make is `ResetFromAnyLiveState`. Decisions D13, D25 of the
spec (log 17). -/
def Obligations.ResetPendingEntry : Prop :=
  ∀ (s : State) (d0 d1 d2 d3 l h : Byte),
    s.core.fault = none → pin s.pins .sync = true → s.resbHigh 7 = true → s.core.brkFlags.getLsbD 2 = true →
      s.readByte s.core.pc = some d0 → s.readByte (stackSlot s.core.s) = some d1 →
      s.readByte (stackSlot (s.core.s - 1#8)) = some d2 → s.readByte (stackSlot (s.core.s - 2#8)) = some d3 →
      s.readByte 0xFFFC#16 = some l → s.readByte 0xFFFD#16 = some h → s.Mapped (join h l) →
        ∃ t, step s = .next t ∧ t.mem = s.mem ∧ t.core.s = s.core.s - 3#8 ∧ t.core.p = s.core.p ||| 0x14#8 ∧
          t.core.a = s.core.a ∧ t.core.ad = l.setWidth 16 ∧ t.core.brkFlags = 0#3 ∧ s.Ends t 0x00#8 7 (join h l) ∧
          s.trace 7 =
            [⟨s.core.pc, true, d0, false⟩, ⟨stackSlot s.core.s, true, d1, false⟩,
              ⟨stackSlot (s.core.s - 1#8), true, d2, false⟩, ⟨stackSlot (s.core.s - 2#8), true, d3, false⟩,
              ⟨0xFFFC#16, true, l, false⟩, ⟨0xFFFD#16, true, h, false⟩, ⟨join h l, true, getData t.pins, true⟩]

/-- With I set and nothing in the pipelines, the instruction after CLI always executes however low IRQB is held; with IRQB
held low the interrupt is recognised at the SYNC tick after that instruction, unless it is a BRK, which sets I again
(`46_flag_system.md` R182, `60_exceptions.md` R215). Decisions D5 of the spec (log 17). -/
def Obligations.CliDelaysTheInterrupt : Prop :=
  ∀ (s t : State),
    flag s.core.p .i = true → s.core.irqPip = 0#16 → s.core.nmiPip = 0#16 → s.core.brkFlags = 0#3 →
      s.inputs = List.replicate 8 ⟨true, false, true, true⟩ → exec .cli s = .next t →
        t.pendingAtSync = 0#3 ∧
          ∀ (i : Instr) (u : State), i ≠ .brk → exec i t = .next u → u.pendingAtSync = 1#3

/-! ### From ticks to instructions -/

/-- The instruction-level meaning is the composition of the instruction's ticks (`40_engine.md` R113): under R113's
conditions, the system cycles of its declared length do exactly what `exec` says, a fault included.
Decisions D18 of the spec (log 17). -/
def Obligations.InstructionIsItsTicks : Prop := ∀ (s : State) (i : Instr), s.RunsWhole i → s.cycles (ticks i) = exec i s

/-- The interrupt entry is the composition of its 7 ticks (`60_exceptions.md` R219, R220).
Decisions D3, D18 of the spec (log 17). -/
def Obligations.InterruptIsItsTicks : Prop :=
  ∀ (s : State), s.core.fault = none → pin s.pins .sync = true → s.resbHigh 7 = true → s.pendingAtSync ≠ 0#3 →
    s.cycles 7 = s.takeInterrupt

/-- Every step of the machine, from every state, is a positive number of system cycles (`20_memory.md` R57, `40_engine.md`
R113). How many is the model's choice (log 11). Decision D18 of the spec (log 17). -/
def Obligations.StepIsSystemCycles : Prop := ∀ s : State, ∃ n, 1 ≤ n ∧ step s = s.cycles n

/-- One step of this model is one whole instruction, that the bytes at PC decode to, under R113's conditions. That a step has
this size is the model's choice (log 11); that the instruction is its ticks (`40_engine.md` R113) is
`InstructionIsItsTicks`. Decision D18 of the spec (log 17). -/
def Obligations.StepRunsTheDecodedInstruction : Prop := ∀ (s : State) (i : Instr), s.RunsWhole i → step s = exec i s

/-- The length of each instruction in ticks (`70_reset_and_hazards.md` R255, `30_encoding.md` R77).
Decisions D3 of the spec (log 17). -/
def Obligations.CycleCounts : Prop :=
  (∀ i ∈ [Instr.clc, .sec, .cli, .sei, .clv, .cld, .sed, .aslAcc, .rolAcc, .lsrAcc, .rorAcc], ticks i = 2) ∧
    (∀ v : Byte, ∀ i ∈ [Instr.oraImm v, .andImm v, .eorImm v, .adcImm v, .sbcImm v, .cmpImm v, .ldaImm v], ticks i = 2) ∧
    (∀ a : Word,
      (∀ i ∈ [Instr.oraAbs a, .andAbs a, .eorAbs a, .adcAbs a, .sbcAbs a, .cmpAbs a, .ldaAbs a, .sta a], ticks i = 4) ∧
        (∀ i ∈ [Instr.aslAbs a, .rolAbs a, .lsrAbs a, .rorAbs a], ticks i = 6) ∧
        ticks (.jmp a) = 3 ∧ ticks (.jsr a) = 6) ∧
    ticks .brk = 7

/-- The bus cycles of the 2-tick instructions, the dummy read of the byte after the opcode among them
(`70_reset_and_hazards.md` R255, `20_memory.md` R62, `40_engine.md` R105 to R107).
Decisions D3 of the spec (log 17). -/
def Obligations.ShortInstructionBusCycles : Prop :=
  ∀ (s t : State),
    (∀ i ∈ [Instr.clc, .sec, .cli, .sei, .clv, .cld, .sed, .aslAcc, .rolAcc, .lsrAcc, .rorAcc],
      s.RunsWhole i → exec i s = .next t →
        s.trace 2 = [⟨s.core.pc + 1#16, true, getData t.pins, false⟩, ⟨s.core.pc + 1#16, true, getData t.pins, true⟩]) ∧
    (∀ v : Byte, ∀ i ∈ [Instr.oraImm v, .andImm v, .eorImm v, .adcImm v, .sbcImm v, .cmpImm v, .ldaImm v],
      s.RunsWhole i → exec i s = .next t →
        s.trace 2 = [⟨s.core.pc + 1#16, true, v, false⟩, ⟨s.core.pc + 2#16, true, getData t.pins, true⟩])

/-- The bus cycles of the absolute forms: one read of the operand for the reads, none for STA (whether or not its address is
mapped), and read, write of the old value, write of the new value for the shifts (`70_reset_and_hazards.md` R255,
`40_engine.md` R108 to R110, `45_jump.md` R170). Decisions D3, D4 of the spec (log 17). -/
def Obligations.AbsoluteInstructionBusCycles : Prop :=
  ∀ (a : Word) (s t : State),
    (∀ m, s.readByte a = some m →
      ∀ i ∈ [Instr.oraAbs a, .andAbs a, .eorAbs a, .adcAbs a, .sbcAbs a, .cmpAbs a, .ldaAbs a],
      s.RunsWhole i → exec i s = .next t →
        s.trace 4 =
          [⟨s.core.pc + 1#16, true, lo a, false⟩, ⟨s.core.pc + 2#16, true, hi a, false⟩, ⟨a, true, m, false⟩,
            ⟨s.core.pc + 3#16, true, getData t.pins, true⟩]) ∧
    (s.RunsWhole (.sta a) → exec (.sta a) s = .next t →
      s.trace 4 =
        [⟨s.core.pc + 1#16, true, lo a, false⟩, ⟨s.core.pc + 2#16, true, hi a, false⟩, ⟨a, false, s.core.a, false⟩,
          ⟨s.core.pc + 3#16, true, getData t.pins, true⟩]) ∧
    (∀ m, s.readByte a = some m →
      ∀ e ∈ [(Instr.aslAbs a, asl), (.rolAbs a, rol), (.lsrAbs a, lsr), (.rorAbs a, ror)],
      s.RunsWhole e.1 → exec e.1 s = .next t →
        s.trace 6 =
          [⟨s.core.pc + 1#16, true, lo a, false⟩, ⟨s.core.pc + 2#16, true, hi a, false⟩, ⟨a, true, m, false⟩,
            ⟨a, false, m, false⟩, ⟨a, false, (e.2 m s.core.p).1, false⟩,
            ⟨s.core.pc + 3#16, true, getData t.pins, true⟩]) ∧
    (s.RunsWhole (.jmp a) → exec (.jmp a) s = .next t →
      s.trace 3 =
        [⟨s.core.pc + 1#16, true, lo a, false⟩, ⟨s.core.pc + 2#16, true, hi a, false⟩,
          ⟨a, true, getData t.pins, true⟩])

/-- The bus cycles of JSR and BRK: the dummy stack read, the pushes in order, and the target or the vector
(`70_reset_and_hazards.md` R255, `45_jump.md` R171, `46_flag_system.md` R187).
Decisions D3, D20 of the spec (log 17). -/
def Obligations.StackInstructionBusCycles : Prop :=
  (∀ (a : Word) (d : Byte) (s t : State),
    s.RunsWhole (.jsr a) → s.readByte (stackSlot s.core.s) = some d → exec (.jsr a) s = .next t →
      s.trace 6 =
        [⟨s.core.pc + 1#16, true, lo a, false⟩, ⟨stackSlot s.core.s, true, d, false⟩,
          ⟨stackSlot s.core.s, false, hi (s.core.pc + 2#16), false⟩,
          ⟨stackSlot (s.core.s - 1#8), false, lo (s.core.pc + 2#16), false⟩,
          ⟨s.core.pc + 2#16, true, hi t.core.pc, false⟩, ⟨t.core.pc, true, getData t.pins, true⟩]) ∧
  ∀ (d : Byte) (s t : State),
    s.RunsWhole .brk → s.readByte (s.core.pc + 1#16) = some d → exec .brk s = .next t →
      s.trace 7 =
        [⟨s.core.pc + 1#16, true, d, false⟩, ⟨stackSlot s.core.s, false, hi (s.core.pc + 2#16), false⟩,
          ⟨stackSlot (s.core.s - 1#8), false, lo (s.core.pc + 2#16), false⟩,
          ⟨stackSlot (s.core.s - 2#8), false, s.core.p ||| 0x20#8, false⟩,
          ⟨0xFFFE#16, true, lo t.core.pc, false⟩, ⟨0xFFFF#16, true, hi t.core.pc, false⟩,
          ⟨t.core.pc, true, getData t.pins, true⟩]

/-! ### Reset -/

/-- A reset from any state of a live core, in the middle of any instruction: after one tick or more with RESB low and 6 with
RESB high, whatever the other lines do, PC is the content of the reset vector and its instruction starts; S is 3 lower, I
and B are set, every other flag, A, X, Y and memory are unchanged, nothing is pending, and no write cycle occurs
(`70_reset_and_hazards.md` R241 to R243). Decisions D13, D23, D24 of the spec (log 17). -/
def Obligations.ResetFromAnyLiveState : Prop :=
  ∀ (s : State) (low high rest : List Inputs) (l h : Byte),
    s.core.fault = none → s.inputs = low ++ high ++ rest → low ≠ [] → (∀ i ∈ low, i.resb = false) →
      high.length = 6 → (∀ i ∈ high, i.resb = true) → s.Mapped s.core.pc → s.Mapped (stackSlot s.core.s) →
      s.Mapped (stackSlot (s.core.s - 1#8)) → s.Mapped (stackSlot (s.core.s - 2#8)) → s.readByte 0xFFFC#16 = some l →
      s.readByte 0xFFFD#16 = some h → s.Mapped (join h l) →
        ∃ t, s.cycles (low.length + 6) = .next t ∧ t.StartsAt (join h l) ∧ t.core.a = s.core.a ∧ t.core.x = s.core.x ∧
          t.core.y = s.core.y ∧ t.core.s = s.core.s - 3#8 ∧ t.core.p = s.core.p ||| 0x14#8 ∧
          t.core.ad = l.setWidth 16 ∧ t.core.ir = ⟨0x00#8, 7#3⟩ ∧ t.core.brkFlags = 0#3 ∧ t.core.fault = none ∧
          t.mem = s.mem ∧ t.map = s.map ∧ t.inputs = rest ∧
          ∀ c ∈ s.trace (low.length + 6), c.read = true

/-- The state after a reset from power-up with quiet lines, for every value of the OPEN parameters `S_POWERUP`,
`AD_POWERUP` and `MEM` (`70_reset_and_hazards.md` R242, `10_state.md` R32).
Decisions D11 to D13, D23 of the spec (log 17). -/
def Obligations.ResetFromPowerUp : Prop :=
  ∀ (sp : Byte) (ad : Word) (mem : Memory) (map : List Region) (rdy : Bool) (l h : Byte) (s : State),
    s = State.powerUp sp ad mem map [⟨false, true, true, rdy⟩] → s.Mapped 0x0000#16 → s.Mapped (stackSlot sp) →
      s.Mapped (stackSlot (sp - 1#8)) → s.Mapped (stackSlot (sp - 2#8)) → s.readByte 0xFFFC#16 = some l →
      s.readByte 0xFFFD#16 = some h → s.Mapped (join h l) →
        ∃ t, s.cycles 7 = .next t ∧ t.StartsAt (join h l) ∧ t.core.a = 0x00#8 ∧ t.core.x = 0x00#8 ∧ t.core.y = 0x00#8 ∧
          t.core.s = sp - 3#8 ∧ t.core.p = 0x16#8 ∧ t.core.ad = l.setWidth 16 ∧ t.core.ir = ⟨0x00#8, 7#3⟩ ∧
          t.core.brkFlags = 0#3 ∧ t.core.irqPip = 0x0000#16 ∧ t.core.nmiPip = 0x0000#16 ∧ t.core.fault = none ∧
          t.mem = mem ∧ t.pins = setData t.core.pinsPrev (getData t.pins)

/-- A core that is ticked after power-up with RESB never low runs BRK first: it pushes 0x0001 and the status 0x22 and loads
PC from 0xFFFE (`10_state.md` R32, R17). Decisions D11, D12, D15, D20 of the spec (log 17). -/
def Obligations.PowerUpWithoutReset : Prop :=
  ∀ (sp : Byte) (ad : Word) (mem : Memory) (map : List Region) (l h : Byte) (s : State),
    s = State.powerUp sp ad mem map [] → mem.wf = true → s.Mapped 0x0000#16 → s.Writable (stackSlot sp) →
      s.Writable (stackSlot (sp - 1#8)) → s.Writable (stackSlot (sp - 2#8)) → s.readByte 0xFFFE#16 = some l →
      s.readByte 0xFFFF#16 = some h → s.Mapped (join h l) →
        ∃ t, s.cycles 7 = .next t ∧ t.StartsAt (join h l) ∧ t.readByte (stackSlot sp) = some 0x00#8 ∧
          t.readByte (stackSlot (sp - 1#8)) = some 0x01#8 ∧ t.readByte (stackSlot (sp - 2#8)) = some 0x22#8 ∧
          t.core.s = sp - 3#8 ∧ t.core.p = 0x16#8

/-- `State.reset` is the end of a reset from power-up, in every field, with this model's values for the OPEN parameters
(log 1 to 3: `S_POWERUP` = 0x00, `AD_POWERUP` = 0x0000, nothing stored, the reference map). -/
def Obligations.ResetStateIsReached : Prop :=
  (State.powerUp 0x00#8 0x0000#16 [] Config.referenceMap [⟨false, true, true, true⟩]).cycles 7 = .next State.reset ∧
    State.reset.core.a = 0x00#8 ∧ State.reset.core.x = 0x00#8 ∧ State.reset.core.y = 0x00#8 ∧
    State.reset.core.s = 0xFD#8 ∧ State.reset.core.p = 0x16#8 ∧ State.reset.StartsAt 0x0000#16

/-! ### Invariants and whole-machine rules -/

/-- The invariant holds at reset, and at power-up for every value of the OPEN parameters with canonical memory
(`10_state.md` R32). -/
def Obligations.InvariantHoldsAtStart : Prop :=
  State.reset.Inv ∧
    ∀ (sp : Byte) (ad : Word) (mem : Memory) (map : List Region) (inputs : List Inputs), mem.wf = true →
      (State.powerUp sp ad mem map inputs).Inv

/-- Every step keeps the invariant: memory stays canonical, IR stays in step with the pins, SYNC is high only where an
instruction starts, and a step that answers leaves a live core (`20_memory.md` R49, `40_engine.md` R100, R101).
Decisions D16, D18 of the spec (log 17). -/
def Obligations.InvariantKeptByStep : Prop := ∀ s t : State, s.Inv → step s = .next t → t.Inv

/-- The reference host never makes the engine run past a declared length: from the invariant, an `UnimplementedOpcode` fault
always has step 0 (`47_unimplemented.md` R202, `70_reset_and_hazards.md` R254).
Decisions D16, D18 of the spec (log 17). -/
def Obligations.NoStepOverrun : Prop :=
  ∀ (s : State) (op : Byte) (k : BitVec 3), s.Inv → step s = .fault (.engine (.unimplementedOpcode op k)) → k = 0#3

/-- No step of the machine changes X or Y, or bit 5 of P (`10_state.md` R11, R16).
Decisions D1, D15 of the spec (log 17). -/
def Obligations.IndexRegistersAndBit5NeverChange : Prop :=
  ∀ s t : State, step s = .next t →
    t.core.x = s.core.x ∧ t.core.y = s.core.y ∧ flag t.core.p .r = flag s.core.p .r

/-- No step of the machine changes a byte that is not RAM, or the memory map (`20_memory.md` R58).
Decisions D19 of the spec (log 17). -/
def Obligations.RomNeverChanges : Prop :=
  ∀ s t : State, step s = .next t → t.map = s.map ∧ ∀ a, ¬ s.Writable a → t.readByte a = s.readByte a

/-- The writers of each flag are those of the table, for every instruction (`10_state.md` R15).
The spec marks the table as derived. -/
def Obligations.FlagWritersAreComplete : Prop :=
  ∀ (i : Instr) (s t : State), exec i s = .next t → s.KeepsFlags t (flagsWritten i)

/-- A is written by the instructions R10 lists and by no other; S moves down by 2 in JSR, by 3 in BRK, and nowhere else;
the pending flags are cleared by BRK and otherwise kept (`10_state.md` R10, R12, R20, `45_jump.md` R172).
Decisions D1, D3, D20 of the spec (log 17). -/
def Obligations.RegisterWritersAreComplete : Prop :=
  ∀ (i : Instr) (s t : State), exec i s = .next t →
    (writesA i = false → t.core.a = s.core.a) ∧ t.core.s = s.core.s - stackBytes i ∧
      t.core.brkFlags = (if i = .brk then 0#3 else s.core.brkFlags)
end

