-- ==== Sys2Proof/Laws/Decode.lean ====
section
/-! SUPPORT. Bytes and 16-bit values: `join`, `lo` and `hi` undo each other (`30_encoding.md` R74, `20_memory.md` R59). -/

namespace Sys2Proof

@[simp] theorem join_hi_lo (w : Word) : join (hi w) (lo w) = w :=
  BitVec.eq_of_getLsbD_eq fun k hk => by
    by_cases h : k < 8
    · simp [join, hi, lo, h, hk]
    · have : k - 8 < 8 := by omega
      have h' : 8 + (k - 8) = k := by omega
      simp [join, hi, lo, h, hk, this, h']

@[simp] theorem lo_join (h l : Byte) : lo (join h l) = l :=
  BitVec.eq_of_getLsbD_eq fun k hk => by
    simp [join, lo, hk]

@[simp] theorem hi_join (h l : Byte) : hi (join h l) = h :=
  BitVec.eq_of_getLsbD_eq fun k hk => by
    have : 8 + k < 16 := by omega
    simp [join, hi, hk, this]

theorem bytesOfBits_length (n w : Nat) : (bytesOfBits n w).length = n := by
  induction n generalizing w with
  | zero => rfl
  | succ n ih => simp [bytesOfBits, ih]

end Sys2Proof
end

