-- ==== Sys2Proof/Laws/Flags.lean ====
section
/-! SUPPORT. The status register flag by flag: what each helper of Flags.lean writes and what it leaves (`41_alu.md` R120
to R128, `10_state.md` R15). -/

namespace Sys2Proof.Machine

theorem Flag.bit_lt (f : Flag) : f.bit < 8 := by cases f <;> decide

theorem Flag.bit_inj {f g : Flag} (h : f.bit = g.bit) : f = g := by
  cases f <;> cases g <;> first | rfl | (exact absurd h (by decide))

theorem flagMask_bit (f : Flag) (k : Nat) : (1#8 <<< f.bit).getLsbD k = decide (k = f.bit) := by
  by_cases h : k < 8
  · revert k
    cases f <;> decide
  · have := f.bit_lt
    rw [BitVec.getLsbD_of_ge _ _ (by omega)]
    simp
    omega

theorem getLsbD_setFlag (p : Byte) (f : Flag) (v : Bool) (k : Nat) :
    (setFlag p f v).getLsbD k = if k = f.bit then v else p.getLsbD k := by
  have := f.bit_lt
  unfold setFlag
  cases v
  · simp only [Bool.false_eq_true, ite_false, BitVec.getLsbD_and, BitVec.getLsbD_not, flagMask_bit]
    by_cases hk : k < 8
    · by_cases h : k = f.bit <;> simp [h, this, hk]
    · have h : k ≠ f.bit := by omega
      simp [hk, h, BitVec.getLsbD_of_ge p k (by omega)]
  · simp only [ite_true, BitVec.getLsbD_or, flagMask_bit]
    by_cases h : k = f.bit <;> simp [h]

theorem flag_setFlag (p : Byte) (f g : Flag) (v : Bool) : flag (setFlag p f v) g = if g = f then v else flag p g := by
  unfold flag
  rw [getLsbD_setFlag]
  by_cases h : g = f
  · simp [h]
  · have : g.bit ≠ f.bit := fun hb => h (Flag.bit_inj hb)
    simp [h, this]

@[simp] theorem flag_setFlag_same (p : Byte) (f : Flag) (v : Bool) : flag (setFlag p f v) f = v := by simp [flag_setFlag]

theorem flag_setFlag_other (p : Byte) {f g : Flag} (v : Bool) (h : g ≠ f) : flag (setFlag p f v) g = flag p g := by
  simp [flag_setFlag, h]

/-- `set_nz` writes Z and N, and nothing else (R120). -/
theorem flag_setNz (v p : Byte) (g : Flag) :
    flag (setNz v p) g = match g with
      | .z => decide (v = 0#8)
      | .n => v.getLsbD 7
      | g => flag p g := by
  cases g <;> simp [setNz, flag_setFlag]

/-- `compare` writes C, Z and N (R121). -/
theorem flag_compareFlags (r v p : Byte) (g : Flag) :
    flag (compareFlags r v p) g = match g with
      | .c => decide (v.toNat ≤ r.toNat)
      | .z => decide (r - v = 0#8)
      | .n => (r - v).getLsbD 7
      | g => flag p g := by
  cases g <;> simp [compareFlags, flag_setNz, flag_setFlag]

/-- `adc` writes N, V, Z and C (R122). -/
theorem flag_adc_other (a v p : Byte) {g : Flag} (hc : g ≠ .c) (hz : g ≠ .z) (hv : g ≠ .v) (hn : g ≠ .n) :
    flag (adc a v p).2 g = flag p g := by
  cases g <;> simp_all [adc, flag_setNz, flag_setFlag]

/-- `sbc` writes N, V, Z and C (R123). -/
theorem flag_sbc_other (a v p : Byte) {g : Flag} (hc : g ≠ .c) (hz : g ≠ .z) (hv : g ≠ .v) (hn : g ≠ .n) :
    flag (sbc a v p).2 g = flag p g := by
  cases g <;> simp_all [sbc, flag_setNz, flag_setFlag]

/-- Entry sets I and B alone (R225). -/
theorem flag_maskedStatus (p : Byte) (g : Flag) :
    flag (maskedStatus p) g = match g with
      | .i => true
      | .b => true
      | g => flag p g := by
  cases g <;> simp [maskedStatus, flag_setFlag]

end Sys2Proof.Machine
end

