-- ==== Sys2Proof/Laws/Memory.lean ====
section
/-! SUPPORT. Memory: every operation keeps the canonical form, a read after a write gives the byte written, and a write
leaves every other address alone (`20_memory.md` R55, R58, R65). -/

namespace Sys2Proof.Machine

theorem Memory.wfFrom_cons {lowest k : Nat} {b : Byte} {rest : Memory} :
    Memory.wfFrom lowest ((k, b) :: rest) = true ↔
      lowest ≤ k ∧ k < 65536 ∧ b ≠ Config.unlistedByte ∧ Memory.wfFrom (k + 1) rest = true := by
  simp [Memory.wfFrom, and_assoc]

/-- A canonical memory has no entry below its bound. -/
theorem Memory.wfFrom_mono {m : Memory} {l l' : Nat} (h : Memory.wfFrom l m = true) (hl : l' ≤ l) :
    Memory.wfFrom l' m = true := by
  cases m with
  | nil => rfl
  | cons e rest =>
    obtain ⟨k, b⟩ := e
    rw [Memory.wfFrom_cons] at h ⊢
    exact ⟨hl.trans h.1, h.2⟩

theorem Memory.read_below {m : Memory} {l a : Nat} (h : Memory.wfFrom l m = true) (ha : a < l) :
    m.read a = Config.unlistedByte := by
  induction m generalizing l with
  | nil => rfl
  | cons e rest ih =>
    obtain ⟨k, b⟩ := e
    rw [Memory.wfFrom_cons] at h
    have : k ≠ a := by omega
    simp only [Memory.read, if_neg this]
    exact ih h.2.2.2 (by omega)

/-- A write leaves every other address alone, in any memory. -/
theorem Memory.read_write_other (m : Memory) {a b : Nat} (v : Byte) (h : b ≠ a) : (m.write a v).read b = m.read b := by
  induction m with
  | nil => by_cases hv : v = Config.unlistedByte <;> simp [Memory.write, Memory.read, hv, h.symm]
  | cons e rest ih =>
    obtain ⟨k, x⟩ := e
    by_cases h1 : a < k
    · by_cases hv : v = Config.unlistedByte <;> simp [Memory.write, Memory.read, h1, hv, h.symm]
    · by_cases h2 : a = k
      · subst h2
        by_cases hv : v = Config.unlistedByte <;> simp [Memory.write, Memory.read, hv, h.symm]
      · simp [Memory.write, Memory.read, h1, h2, ih]

/-- A read after a write to the same address gives the byte written. -/
theorem Memory.read_write_same {m : Memory} {l a : Nat} (v : Byte) (h : Memory.wfFrom l m = true) :
    (m.write a v).read a = v := by
  induction m generalizing l with
  | nil => by_cases hv : v = Config.unlistedByte <;> simp [Memory.write, Memory.read, hv]
  | cons e rest ih =>
    obtain ⟨k, x⟩ := e
    have hc := Memory.wfFrom_cons.mp h
    by_cases h1 : a < k
    · by_cases hv : v = Config.unlistedByte
      · have := Memory.read_below (Memory.wfFrom_cons.mpr ⟨Nat.le_refl k, hc.2⟩) h1
        simpa [Memory.write, h1, hv] using this
      · simp [Memory.write, Memory.read, h1, hv]
    · by_cases h2 : a = k
      · subst h2
        by_cases hv : v = Config.unlistedByte
        · have := Memory.read_below hc.2.2.2 (Nat.lt_succ_self a)
          simpa [Memory.write, hv] using this
        · simp [Memory.write, Memory.read, hv]
      · have : k ≠ a := fun h => h2 h.symm
        simp [Memory.write, Memory.read, h1, h2, this, ih hc.2.2.2]

theorem Memory.wfFrom_write {m : Memory} {l a : Nat} (v : Byte) (h : Memory.wfFrom l m = true) (hl : l ≤ a)
    (ha : a < 65536) : Memory.wfFrom l (m.write a v) = true := by
  induction m generalizing l with
  | nil =>
    by_cases hv : v = Config.unlistedByte
    · simp [Memory.write, hv, Memory.wfFrom]
    · simp [Memory.write, hv, Memory.wfFrom, hl, ha]
  | cons e rest ih =>
    obtain ⟨k, x⟩ := e
    have hc := Memory.wfFrom_cons.mp h
    by_cases h1 : a < k
    · by_cases hv : v = Config.unlistedByte
      · simpa [Memory.write, h1, hv] using h
      · simp only [Memory.write, if_pos h1, if_neg hv]
        exact Memory.wfFrom_cons.mpr ⟨hl, ha, hv, Memory.wfFrom_cons.mpr ⟨h1, hc.2⟩⟩
    · by_cases h2 : a = k
      · subst h2
        by_cases hv : v = Config.unlistedByte
        · simpa [Memory.write, hv] using Memory.wfFrom_mono hc.2.2.2 (by omega : l ≤ a + 1)
        · simp only [Memory.write, Nat.lt_irrefl, if_false, if_true, if_neg hv]
          exact Memory.wfFrom_cons.mpr ⟨hl, ha, hv, hc.2.2.2⟩
      · simp only [Memory.write, if_neg h1, if_neg h2]
        exact Memory.wfFrom_cons.mpr ⟨hc.1, hc.2.1, hc.2.2.1, ih hc.2.2.2 (by omega)⟩

theorem Memory.wf_write {m : Memory} (a : Word) (v : Byte) (h : m.wf = true) : (m.write a.toNat v).wf = true :=
  Memory.wfFrom_write v h (Nat.zero_le _) a.isLt

theorem Memory.wf_load {m : Memory} (a : Word) (bytes : List Byte) (h : m.wf = true) : (m.load a bytes).wf = true := by
  induction bytes generalizing m a with
  | nil => exact h
  | cons v rest ih => exact ih _ (Memory.wf_write a v h)

/-- What the collaborator's `write` changes: memory alone. -/
theorem State.writeByte_eq (s : State) (a : Word) (v : Byte) : s.writeByte a v = { s with mem := (s.writeByte a v).mem } := by
  unfold State.writeByte
  split <;> rfl

@[simp] theorem State.writeByte_core (s : State) (a : Word) (v : Byte) : (s.writeByte a v).core = s.core := by
  unfold State.writeByte
  split <;> rfl

@[simp] theorem State.writeByte_pins (s : State) (a : Word) (v : Byte) : (s.writeByte a v).pins = s.pins := by
  unfold State.writeByte
  split <;> rfl

@[simp] theorem State.writeByte_map (s : State) (a : Word) (v : Byte) : (s.writeByte a v).map = s.map := by
  unfold State.writeByte
  split <;> rfl

@[simp] theorem State.writeByte_inputs (s : State) (a : Word) (v : Byte) : (s.writeByte a v).inputs = s.inputs := by
  unfold State.writeByte
  split <;> rfl

/-- A write at a ROM or unmapped address is dropped (`20_memory.md` R58). -/
theorem State.writeByte_dropped {s : State} {a : Word} (v : Byte) (h : kindAt s.map a ≠ some .ram) : s.writeByte a v = s := by
  simp [State.writeByte, h]

theorem State.writeByte_ram {s : State} {a : Word} (v : Byte) (h : kindAt s.map a = some .ram) :
    s.writeByte a v = { s with mem := s.mem.write a.toNat v } := by
  simp [State.writeByte, h]

theorem State.writeByte_wf {s : State} (a : Word) (v : Byte) (h : s.mem.wf = true) : (s.writeByte a v).mem.wf = true := by
  unfold State.writeByte
  split
  · exact Memory.wf_write a v h
  · exact h

/-- `readByte` depends on the map and the memory alone. -/
theorem State.readByte_congr {s t : State} (hmap : t.map = s.map) (hmem : t.mem = s.mem) (a : Word) :
    t.readByte a = s.readByte a := by
  simp [State.readByte, hmap, hmem]

theorem State.readByte_writeByte_other (s : State) {a b : Word} (v : Byte) (h : b ≠ a) :
    (s.writeByte a v).readByte b = s.readByte b := by
  have : b.toNat ≠ a.toNat := fun hn => h (BitVec.eq_of_toNat_eq hn)
  by_cases hk : kindAt s.map a = some .ram
  · simp [State.readByte, State.writeByte_ram v hk, Memory.read_write_other _ _ this]
  · rw [State.writeByte_dropped v hk]

theorem State.readByte_writeByte_same {s : State} {a : Word} (v : Byte) (h : kindAt s.map a = some .ram)
    (hwf : s.mem.wf = true) : (s.writeByte a v).readByte a = some v := by
  simp [State.readByte, State.writeByte_ram v h, h, Memory.read_write_same v hwf]

/-- A mapped address answers a read, whatever is stored (`20_memory.md` R58). -/
theorem State.readByte_of_mapped {s : State} {a : Word} (h : (kindAt s.map a).isSome = true) :
    s.readByte a = some (s.mem.read a.toNat) := by
  simp [State.readByte, h]

theorem State.readByte_unmapped {s : State} {a : Word} (h : ¬ (kindAt s.map a).isSome = true) : s.readByte a = none := by
  simp [State.readByte, h]

/-- What a read cycle can do: run its continuation on the byte, or stop on an unmapped address. -/
theorem State.readThen_of_some {s : State} {a : Word} {v : Byte} (h : s.readByte a = some v) (k : Byte → Result) :
    s.readThen a k = k v := by
  simp [State.readThen, h]

theorem State.readThen_of_none {s : State} {a : Word} (h : s.readByte a = none) (k : Byte → Result) :
    s.readThen a k = .fault (.unmappedRead a) := by
  simp [State.readThen, h]

theorem State.readThen_next {s t : State} {a : Word} {k : Byte → Result} (h : s.readThen a k = .next t) :
    ∃ v, s.readByte a = some v ∧ k v = .next t := by
  unfold State.readThen at h
  split at h
  · exact ⟨_, ‹_›, h⟩
  · cases h

end Sys2Proof.Machine
end

