-- ==== Sys2Proof/Laws/Pins.lean ====
section
/-! SUPPORT. The pin vector bit by bit: what each Pin Bus operation writes and what it leaves (`20_memory.md` R40 to R50).
No later proof unfolds a mask: two vectors are compared with `pins_ext` and the `getLsbD` lemmas below. -/

namespace Sys2Proof.Machine

theorem Pin.bit_lt (n : Pin) : n.bit < 64 := by cases n <;> decide

theorem Pin.bit_inj {n m : Pin} (h : n.bit = m.bit) : n = m := by
  cases n <;> cases m <;> first | rfl | (exact absurd h (by decide))

/-- A single-bit pin lies outside the address and the data field. -/
theorem Pin.bit_outside_fields (n : Pin) : ¬ (7 ≤ n.bit ∧ n.bit ≤ 22) ∧ ¬ (23 ≤ n.bit ∧ n.bit ≤ 30) := by
  cases n <;> decide

theorem pins_ext {p q : Pins} (h : ∀ k, p.getLsbD k = q.getLsbD k) : p = q :=
  BitVec.eq_of_getLsbD_eq fun k _ => h k

theorem addrMask_bit (k : Nat) : addrMask.getLsbD k = decide (7 ≤ k ∧ k ≤ 22) := by
  by_cases h : k < 64
  · revert k
    decide
  · rw [BitVec.getLsbD_of_ge _ _ (by omega)]
    simp
    omega

theorem dataMask_bit (k : Nat) : dataMask.getLsbD k = decide (23 ≤ k ∧ k ≤ 30) := by
  by_cases h : k < 64
  · revert k
    decide
  · rw [BitVec.getLsbD_of_ge _ _ (by omega)]
    simp
    omega

theorem mask_bit (n : Pin) (k : Nat) : n.mask.getLsbD k = decide (k = n.bit) := by
  by_cases h : k < 64
  · revert k
    cases n <;> decide
  · have := n.bit_lt
    rw [BitVec.getLsbD_of_ge _ _ (by omega)]
    simp
    omega

theorem getLsbD_setAddress (p : Pins) (a : Word) (k : Nat) :
    (setAddress p a).getLsbD k = if 7 ≤ k ∧ k ≤ 22 then a.getLsbD (k - 7) else p.getLsbD k := by
  unfold setAddress
  rw [BitVec.getLsbD_or, BitVec.getLsbD_and, BitVec.getLsbD_not, addrMask_bit, BitVec.getLsbD_shiftLeft,
    BitVec.getLsbD_setWidth]
  by_cases hk : k < 64
  · by_cases h : 7 ≤ k ∧ k ≤ 22
    · have : ¬ k < 7 := by omega
      have : k - 7 < 64 := by omega
      simp [*]
    · by_cases h7 : k < 7
      · simp [*]
      · have : a.getLsbD (k - 7) = false := BitVec.getLsbD_of_ge _ _ (by omega)
        simp [*]
  · have : ¬ (7 ≤ k ∧ k ≤ 22) := by omega
    have : p.getLsbD k = false := BitVec.getLsbD_of_ge _ _ (by omega)
    simp [*]

theorem getLsbD_setData (p : Pins) (d : Byte) (k : Nat) :
    (setData p d).getLsbD k = if 23 ≤ k ∧ k ≤ 30 then d.getLsbD (k - 23) else p.getLsbD k := by
  unfold setData
  rw [BitVec.getLsbD_or, BitVec.getLsbD_and, BitVec.getLsbD_not, dataMask_bit, BitVec.getLsbD_shiftLeft,
    BitVec.getLsbD_setWidth]
  by_cases hk : k < 64
  · by_cases h : 23 ≤ k ∧ k ≤ 30
    · have : ¬ k < 23 := by omega
      have : k - 23 < 64 := by omega
      simp [*]
    · by_cases h7 : k < 23
      · simp [*]
      · have : d.getLsbD (k - 23) = false := BitVec.getLsbD_of_ge _ _ (by omega)
        simp [*]
  · have : ¬ (23 ≤ k ∧ k ≤ 30) := by omega
    have : p.getLsbD k = false := BitVec.getLsbD_of_ge _ _ (by omega)
    simp [*]

theorem getLsbD_drive (p : Pins) (n : Pin) (l : Bool) (k : Nat) :
    (drive p n l).getLsbD k = if k = n.bit then l else p.getLsbD k := by
  have := n.bit_lt
  unfold drive enable disable
  cases l
  · by_cases h : k = n.bit
    · simp [mask_bit, h, this]
    · simp only [Bool.false_eq_true, ite_false, BitVec.getLsbD_and, BitVec.getLsbD_not, mask_bit, h, decide_false,
        Bool.not_false, Bool.and_true]
      by_cases h6 : k < 64
      · simp [h6]
      · simp [h6, BitVec.getLsbD_of_ge p k (by omega)]
  · by_cases h : k = n.bit <;> simp [mask_bit, h]

theorem beginRead_eq_drive (p : Pins) : beginRead p = drive p .rwb true := rfl

theorem beginWrite_eq_drive (p : Pins) : beginWrite p = drive p .rwb false := rfl

theorem beginFetch_eq_drive (p : Pins) (a : Word) : beginFetch p a = drive (setAddress p a) .sync true := rfl

@[simp] theorem pin_setAddress (p : Pins) (a : Word) (n : Pin) : pin (setAddress p a) n = pin p n := by
  simp [pin, getLsbD_setAddress, n.bit_outside_fields.1]

@[simp] theorem pin_setData (p : Pins) (d : Byte) (n : Pin) : pin (setData p d) n = pin p n := by
  simp [pin, getLsbD_setData, n.bit_outside_fields.2]

theorem pin_drive (p : Pins) (n m : Pin) (l : Bool) : pin (drive p n l) m = if m = n then l else pin p m := by
  unfold pin
  rw [getLsbD_drive]
  by_cases h : m = n
  · simp [h]
  · have : m.bit ≠ n.bit := fun hb => h (Pin.bit_inj hb)
    simp [h, this]

@[simp] theorem pin_drive_same (p : Pins) (n : Pin) (l : Bool) : pin (drive p n l) n = l := by simp [pin_drive]

theorem pin_drive_other (p : Pins) {n m : Pin} (l : Bool) (h : m ≠ n) : pin (drive p n l) m = pin p m := by
  simp [pin_drive, h]

theorem getLsbD_getAddress (p : Pins) (k : Nat) : (getAddress p).getLsbD k = (decide (k < 16) && p.getLsbD (7 + k)) := by
  simp [getAddress]

theorem getLsbD_getData (p : Pins) (k : Nat) : (getData p).getLsbD k = (decide (k < 8) && p.getLsbD (23 + k)) := by
  simp [getData]

@[simp] theorem getAddress_setAddress (p : Pins) (a : Word) : getAddress (setAddress p a) = a :=
  BitVec.eq_of_getLsbD_eq fun k hk => by
    have : 7 ≤ 7 + k ∧ 7 + k ≤ 22 := by omega
    rw [getLsbD_getAddress, getLsbD_setAddress, if_pos this, Nat.add_sub_cancel_left]
    simp [hk]

@[simp] theorem getAddress_setData (p : Pins) (d : Byte) : getAddress (setData p d) = getAddress p :=
  BitVec.eq_of_getLsbD_eq fun k hk => by
    have : ¬ (23 ≤ 7 + k ∧ 7 + k ≤ 30) := by omega
    simp [getLsbD_getAddress, getLsbD_setData, this]

@[simp] theorem getData_setData (p : Pins) (d : Byte) : getData (setData p d) = d :=
  BitVec.eq_of_getLsbD_eq fun k hk => by
    have : 23 ≤ 23 + k ∧ 23 + k ≤ 30 := by omega
    rw [getLsbD_getData, getLsbD_setData, if_pos this, Nat.add_sub_cancel_left]
    simp [hk]

@[simp] theorem getData_setAddress (p : Pins) (a : Word) : getData (setAddress p a) = getData p :=
  BitVec.eq_of_getLsbD_eq fun k hk => by
    have : ¬ (7 ≤ 23 + k ∧ 23 + k ≤ 22) := by omega
    simp [getLsbD_getData, getLsbD_setAddress, this]

@[simp] theorem getAddress_drive (p : Pins) (n : Pin) (l : Bool) : getAddress (drive p n l) = getAddress p :=
  BitVec.eq_of_getLsbD_eq fun k hk => by
    have := n.bit_outside_fields
    have : ¬ 7 + k = n.bit := by omega
    simp [getLsbD_getAddress, getLsbD_drive, this]

@[simp] theorem getData_drive (p : Pins) (n : Pin) (l : Bool) : getData (drive p n l) = getData p :=
  BitVec.eq_of_getLsbD_eq fun k hk => by
    have := n.bit_outside_fields
    have : ¬ 23 + k = n.bit := by omega
    simp [getLsbD_getData, getLsbD_drive, this]

@[simp] theorem getAddress_presentInputs (p : Pins) (i : Inputs) : getAddress (presentInputs p i) = getAddress p := by
  simp [presentInputs]

@[simp] theorem getData_presentInputs (p : Pins) (i : Inputs) : getData (presentInputs p i) = getData p := by
  simp [presentInputs]

/-- What the host presents with a rising edge, pin by pin (`20_memory.md` R57). -/
theorem pin_presentInputs (p : Pins) (i : Inputs) (n : Pin) :
    pin (presentInputs p i) n =
      match n with
      | .phi2 => true | .resb => i.resb | .irqb => i.irqb | .nmib => i.nmib | .rdy => i.rdy
      | n => pin p n := by
  cases n <;> simp [presentInputs, pin_drive]

@[simp] theorem pin_beginRead (p : Pins) (n : Pin) : pin (beginRead p) n = if n = .rwb then true else pin p n := by
  rw [beginRead_eq_drive, pin_drive]

@[simp] theorem pin_beginWrite (p : Pins) (n : Pin) : pin (beginWrite p) n = if n = .rwb then false else pin p n := by
  rw [beginWrite_eq_drive, pin_drive]

@[simp] theorem pin_beginFetch (p : Pins) (a : Word) (n : Pin) :
    pin (beginFetch p a) n = if n = .sync then true else pin p n := by
  rw [beginFetch_eq_drive, pin_drive, pin_setAddress]

@[simp] theorem getAddress_beginFetch (p : Pins) (a : Word) : getAddress (beginFetch p a) = a := by
  simp [beginFetch_eq_drive]

@[simp] theorem getData_beginFetch (p : Pins) (a : Word) : getData (beginFetch p a) = getData p := by
  simp [beginFetch_eq_drive]

@[simp] theorem getAddress_beginRead (p : Pins) : getAddress (beginRead p) = getAddress p := by
  simp [beginRead_eq_drive]

@[simp] theorem getData_beginRead (p : Pins) : getData (beginRead p) = getData p := by simp [beginRead_eq_drive]

@[simp] theorem getAddress_beginWrite (p : Pins) : getAddress (beginWrite p) = getAddress p := by
  simp [beginWrite_eq_drive]

@[simp] theorem getData_beginWrite (p : Pins) : getData (beginWrite p) = getData p := by simp [beginWrite_eq_drive]

end Sys2Proof.Machine
end

