-- ==== Sys2Proof/Laws/State.lean ====
section
/-! SUPPORT. One lemma per field per named update of the core and of the system state, true by `rfl` or by the lemma for
one update, so that no later proof unfolds a record update. -/

namespace Sys2Proof.Machine

@[simp] theorem Core.detect_a (c : Core) (p : Pins) : (c.detect p).a = c.a := rfl
@[simp] theorem Core.detect_x (c : Core) (p : Pins) : (c.detect p).x = c.x := rfl
@[simp] theorem Core.detect_y (c : Core) (p : Pins) : (c.detect p).y = c.y := rfl
@[simp] theorem Core.detect_s (c : Core) (p : Pins) : (c.detect p).s = c.s := rfl
@[simp] theorem Core.detect_p (c : Core) (p : Pins) : (c.detect p).p = c.p := rfl
@[simp] theorem Core.detect_pc (c : Core) (p : Pins) : (c.detect p).pc = c.pc := rfl
@[simp] theorem Core.detect_ad (c : Core) (p : Pins) : (c.detect p).ad = c.ad := rfl
@[simp] theorem Core.detect_ir (c : Core) (p : Pins) : (c.detect p).ir = c.ir := rfl
@[simp] theorem Core.detect_brkFlags (c : Core) (p : Pins) : (c.detect p).brkFlags = c.brkFlags := rfl
@[simp] theorem Core.detect_pinsPrev (c : Core) (p : Pins) : (c.detect p).pinsPrev = c.pinsPrev := rfl
@[simp] theorem Core.detect_fault (c : Core) (p : Pins) : (c.detect p).fault = c.fault := rfl

@[simp] theorem Core.redirect_a (c : Core) : c.redirect.a = c.a := rfl
@[simp] theorem Core.redirect_x (c : Core) : c.redirect.x = c.x := rfl
@[simp] theorem Core.redirect_y (c : Core) : c.redirect.y = c.y := rfl
@[simp] theorem Core.redirect_s (c : Core) : c.redirect.s = c.s := rfl
@[simp] theorem Core.redirect_p (c : Core) : c.redirect.p = setFlag c.p .b false := rfl
@[simp] theorem Core.redirect_pc (c : Core) : c.redirect.pc = c.pc := rfl
@[simp] theorem Core.redirect_ad (c : Core) : c.redirect.ad = c.ad := rfl
@[simp] theorem Core.redirect_ir (c : Core) : c.redirect.ir = ⟨0x00#8, 0#3⟩ := rfl
@[simp] theorem Core.redirect_brkFlags (c : Core) : c.redirect.brkFlags = c.brkFlags := rfl
@[simp] theorem Core.redirect_irqPip (c : Core) : c.redirect.irqPip = c.irqPip := rfl
@[simp] theorem Core.redirect_nmiPip (c : Core) : c.redirect.nmiPip = c.nmiPip := rfl
@[simp] theorem Core.redirect_pinsPrev (c : Core) : c.redirect.pinsPrev = c.pinsPrev := rfl
@[simp] theorem Core.redirect_fault (c : Core) : c.redirect.fault = c.fault := rfl

@[simp] theorem Core.latch_a (c : Core) (p : Pins) : (c.latch p).a = c.a := rfl
@[simp] theorem Core.latch_x (c : Core) (p : Pins) : (c.latch p).x = c.x := rfl
@[simp] theorem Core.latch_y (c : Core) (p : Pins) : (c.latch p).y = c.y := rfl
@[simp] theorem Core.latch_s (c : Core) (p : Pins) : (c.latch p).s = c.s := rfl
@[simp] theorem Core.latch_p (c : Core) (p : Pins) : (c.latch p).p = c.p := rfl
@[simp] theorem Core.latch_pc (c : Core) (p : Pins) : (c.latch p).pc = c.pc := rfl
@[simp] theorem Core.latch_ad (c : Core) (p : Pins) : (c.latch p).ad = c.ad := rfl
@[simp] theorem Core.latch_ir (c : Core) (p : Pins) : (c.latch p).ir = ⟨getData p, 0#3⟩ := rfl
@[simp] theorem Core.latch_brkFlags (c : Core) (p : Pins) : (c.latch p).brkFlags = c.brkFlags := rfl
@[simp] theorem Core.latch_irqPip (c : Core) (p : Pins) : (c.latch p).irqPip = c.irqPip := rfl
@[simp] theorem Core.latch_nmiPip (c : Core) (p : Pins) : (c.latch p).nmiPip = c.nmiPip := rfl
@[simp] theorem Core.latch_pinsPrev (c : Core) (p : Pins) : (c.latch p).pinsPrev = c.pinsPrev := rfl
@[simp] theorem Core.latch_fault (c : Core) (p : Pins) : (c.latch p).fault = c.fault := rfl

@[simp] theorem Core.recognise_a (c : Core) : c.recognise.a = c.a := rfl
@[simp] theorem Core.recognise_x (c : Core) : c.recognise.x = c.x := rfl
@[simp] theorem Core.recognise_y (c : Core) : c.recognise.y = c.y := rfl
@[simp] theorem Core.recognise_s (c : Core) : c.recognise.s = c.s := rfl
@[simp] theorem Core.recognise_p (c : Core) : c.recognise.p = c.p := rfl
@[simp] theorem Core.recognise_pc (c : Core) : c.recognise.pc = c.pc := rfl
@[simp] theorem Core.recognise_ad (c : Core) : c.recognise.ad = c.ad := rfl
@[simp] theorem Core.recognise_ir (c : Core) : c.recognise.ir = c.ir := rfl
@[simp] theorem Core.recognise_brkFlags (c : Core) :
    c.recognise.brkFlags = recognised c.brkFlags c.irqPip c.nmiPip := rfl
@[simp] theorem Core.recognise_irqPip (c : Core) : c.recognise.irqPip = keepYoung c.irqPip := rfl
@[simp] theorem Core.recognise_nmiPip (c : Core) : c.recognise.nmiPip = keepYoung c.nmiPip := rfl
@[simp] theorem Core.recognise_pinsPrev (c : Core) : c.recognise.pinsPrev = c.pinsPrev := rfl
@[simp] theorem Core.recognise_fault (c : Core) : c.recognise.fault = c.fault := rfl

@[simp] theorem Core.afterDispatch_a (c : Core) (p : Pins) : (c.afterDispatch p).a = c.a := rfl
@[simp] theorem Core.afterDispatch_x (c : Core) (p : Pins) : (c.afterDispatch p).x = c.x := rfl
@[simp] theorem Core.afterDispatch_y (c : Core) (p : Pins) : (c.afterDispatch p).y = c.y := rfl
@[simp] theorem Core.afterDispatch_s (c : Core) (p : Pins) : (c.afterDispatch p).s = c.s := rfl
@[simp] theorem Core.afterDispatch_p (c : Core) (p : Pins) : (c.afterDispatch p).p = c.p := rfl
@[simp] theorem Core.afterDispatch_pc (c : Core) (p : Pins) : (c.afterDispatch p).pc = c.pc := rfl
@[simp] theorem Core.afterDispatch_ad (c : Core) (p : Pins) : (c.afterDispatch p).ad = c.ad := rfl
@[simp] theorem Core.afterDispatch_ir (c : Core) (p : Pins) :
    (c.afterDispatch p).ir = ⟨c.ir.opcode, c.ir.step + 1#3⟩ := rfl
@[simp] theorem Core.afterDispatch_brkFlags (c : Core) (p : Pins) : (c.afterDispatch p).brkFlags = c.brkFlags := rfl
@[simp] theorem Core.afterDispatch_irqPip (c : Core) (p : Pins) : (c.afterDispatch p).irqPip = agePip c.irqPip := rfl
@[simp] theorem Core.afterDispatch_nmiPip (c : Core) (p : Pins) : (c.afterDispatch p).nmiPip = agePip c.nmiPip := rfl
@[simp] theorem Core.afterDispatch_pinsPrev (c : Core) (p : Pins) : (c.afterDispatch p).pinsPrev = p := rfl
@[simp] theorem Core.afterDispatch_fault (c : Core) (p : Pins) : (c.afterDispatch p).fault = c.fault := rfl

@[simp] theorem State.passTick_a (b : Bool) (s : State) : (s.passTick b).core.a = s.core.a := rfl
@[simp] theorem State.passTick_x (b : Bool) (s : State) : (s.passTick b).core.x = s.core.x := rfl
@[simp] theorem State.passTick_y (b : Bool) (s : State) : (s.passTick b).core.y = s.core.y := rfl
@[simp] theorem State.passTick_s (b : Bool) (s : State) : (s.passTick b).core.s = s.core.s := rfl
@[simp] theorem State.passTick_p (b : Bool) (s : State) : (s.passTick b).core.p = s.core.p := rfl
@[simp] theorem State.passTick_pc (b : Bool) (s : State) : (s.passTick b).core.pc = s.core.pc := rfl
@[simp] theorem State.passTick_ad (b : Bool) (s : State) : (s.passTick b).core.ad = s.core.ad := rfl
@[simp] theorem State.passTick_ir (b : Bool) (s : State) : (s.passTick b).core.ir = s.core.ir := rfl
@[simp] theorem State.passTick_brkFlags (b : Bool) (s : State) : (s.passTick b).core.brkFlags = s.core.brkFlags := rfl
@[simp] theorem State.passTick_fault (b : Bool) (s : State) : (s.passTick b).core.fault = s.core.fault := rfl
@[simp] theorem State.passTick_mem (b : Bool) (s : State) : (s.passTick b).mem = s.mem := rfl
@[simp] theorem State.passTick_map (b : Bool) (s : State) : (s.passTick b).map = s.map := rfl
@[simp] theorem State.passTick_inputs (b : Bool) (s : State) : (s.passTick b).inputs = s.inputs.tail := rfl
@[simp] theorem State.passTick_pins (b : Bool) (s : State) :
    (s.passTick b).pins = presentInputs s.pins s.nextInputs := rfl

@[simp] theorem State.push_a (s : State) (v : Byte) : (s.push v).core.a = s.core.a := by simp [State.push]
@[simp] theorem State.push_x (s : State) (v : Byte) : (s.push v).core.x = s.core.x := by simp [State.push]
@[simp] theorem State.push_y (s : State) (v : Byte) : (s.push v).core.y = s.core.y := by simp [State.push]
@[simp] theorem State.push_s (s : State) (v : Byte) : (s.push v).core.s = s.core.s - 1#8 := by simp [State.push]
@[simp] theorem State.push_p (s : State) (v : Byte) : (s.push v).core.p = s.core.p := by simp [State.push]
@[simp] theorem State.push_pc (s : State) (v : Byte) : (s.push v).core.pc = s.core.pc := by simp [State.push]
@[simp] theorem State.push_ad (s : State) (v : Byte) : (s.push v).core.ad = s.core.ad := by simp [State.push]
@[simp] theorem State.push_brkFlags (s : State) (v : Byte) : (s.push v).core.brkFlags = s.core.brkFlags := by
  simp [State.push]
@[simp] theorem State.push_irqPip (s : State) (v : Byte) : (s.push v).core.irqPip = s.core.irqPip := by
  simp [State.push]
@[simp] theorem State.push_nmiPip (s : State) (v : Byte) : (s.push v).core.nmiPip = s.core.nmiPip := by
  simp [State.push]
@[simp] theorem State.push_pinsPrev (s : State) (v : Byte) : (s.push v).core.pinsPrev = s.core.pinsPrev := by
  simp [State.push]
@[simp] theorem State.push_fault (s : State) (v : Byte) : (s.push v).core.fault = s.core.fault := by simp [State.push]
@[simp] theorem State.push_pins (s : State) (v : Byte) : (s.push v).pins = s.pins := by
  unfold State.push State.writeByte
  split <;> rfl
@[simp] theorem State.push_map (s : State) (v : Byte) : (s.push v).map = s.map := by
  unfold State.push State.writeByte
  split <;> rfl
@[simp] theorem State.push_inputs (s : State) (v : Byte) : (s.push v).inputs = s.inputs := by
  unfold State.push State.writeByte
  split <;> rfl
theorem State.push_mem (s : State) (v : Byte) : (s.push v).mem = (s.writeByte s.core.stackAddress v).mem := rfl

end Sys2Proof.Machine
end

