-- ==== Sys2Proof/Laws/MicroSteps.lean ====
section
/-! SUPPORT. Said once about every micro-step of every micro-program: which fields it never touches, which pins it never
drives, and that the final one, and no other, queues a fetch at the new PC (`40_engine.md` R100, R104; `10_state.md` R26). -/

namespace Sys2Proof.Machine

/-- What a micro-step that did not fault has done; `last` says that it is the final step of its program. -/
structure MicroFacts (last : Bool) (c : Core) (p : Pins) (c' : Core) (p' : Pins) : Prop where
  x : c'.x = c.x
  y : c'.y = c.y
  ir : c'.ir = c.ir
  irqPip : c'.irqPip = c.irqPip
  nmiPip : c'.nmiPip = c.nmiPip
  pinsPrev : c'.pinsPrev = c.pinsPrev
  fault : c'.fault = c.fault
  reserved : flag c'.p .r = flag c.p .r
  /-- Bits 5:0 and 63:32: every input and every pin the engine does not drive. -/
  passed : ∀ k, k < 6 ∨ 32 ≤ k → p'.getLsbD k = p.getLsbD k
  fetch : last = true → pin p' .sync = true ∧ pin p' .rwb = pin p .rwb ∧ getAddress p' = c'.pc
  quiet : last = false → pin p' .sync = pin p .sync

/-- A micro-step with these facts, from every core and every vector. -/
def MicroStep.Keeps (last : Bool) (f : MicroStep) : Prop := ∀ c p c' p', f c p = .ok (c', p') → MicroFacts last c p c' p'

theorem passed_setAddress (p : Pins) (a : Word) (k : Nat) (h : k < 6 ∨ 32 ≤ k) : (setAddress p a).getLsbD k = p.getLsbD k := by
  rw [getLsbD_setAddress, if_neg (by omega)]

theorem passed_setData (p : Pins) (d : Byte) (k : Nat) (h : k < 6 ∨ 32 ≤ k) : (setData p d).getLsbD k = p.getLsbD k := by
  rw [getLsbD_setData, if_neg (by omega)]

theorem passed_beginWrite (p : Pins) (k : Nat) (h : k < 6 ∨ 32 ≤ k) : (beginWrite p).getLsbD k = p.getLsbD k := by
  rw [beginWrite_eq_drive, getLsbD_drive, if_neg (by simp [Pin.bit]; omega)]

theorem passed_beginFetch (p : Pins) (a : Word) (k : Nat) (h : k < 6 ∨ 32 ≤ k) : (beginFetch p a).getLsbD k = p.getLsbD k := by
  rw [beginFetch_eq_drive, getLsbD_drive, if_neg (by simp [Pin.bit]; omega), passed_setAddress p a k h]

theorem passed_pushVector (c : Core) (p : Pins) (v : Byte) (b : Bool) (k : Nat) (h : k < 6 ∨ 32 ≤ k) :
    (pushVector c p v b).getLsbD k = p.getLsbD k := by
  cases b <;> simp [pushVector, setAddressAndData, passed_beginWrite _ k h, passed_setData _ _ k h, passed_setAddress _ _ k h]

@[simp] theorem sync_pushVector (c : Core) (p : Pins) (v : Byte) (b : Bool) : pin (pushVector c p v b) .sync = pin p .sync := by
  cases b <;> simp [pushVector, setAddressAndData]

theorem dummyReadStep_keeps : MicroStep.Keeps false dummyReadStep := by
  rintro c p _ _ ⟨⟩
  constructor <;> simp +contextual [passed_setAddress]

theorem operandStep_keeps : MicroStep.Keeps false operandStep := by
  rintro c p _ _ ⟨⟩
  constructor <;> simp +contextual [passed_setAddress]

theorem operandHighStep_keeps : MicroStep.Keeps false operandHighStep := by
  rintro c p _ _ ⟨⟩
  constructor <;> simp +contextual [passed_setAddress]

theorem readEffectiveStep_keeps : MicroStep.Keeps false readEffectiveStep := by
  rintro c p _ _ ⟨⟩
  constructor <;> simp +contextual [passed_setAddress]

theorem storeAccumulatorStep_keeps : MicroStep.Keeps false storeAccumulatorStep := by
  rintro c p _ _ ⟨⟩
  constructor <;> simp +contextual [setAddressAndData, passed_setAddress, passed_setData, passed_beginWrite]

theorem dummyWriteStep_keeps : MicroStep.Keeps false dummyWriteStep := by
  rintro c p _ _ ⟨⟩
  constructor <;> simp +contextual [passed_beginWrite]

theorem peekStackStep_keeps : MicroStep.Keeps false peekStackStep := by
  rintro c p _ _ ⟨⟩
  constructor <;> simp +contextual [passed_setAddress]

theorem pushStep_keeps (f : Word → Byte) : MicroStep.Keeps false (pushStep f) := by
  rintro c p _ _ ⟨⟩
  constructor <;> simp +contextual [passed_pushVector]

theorem brkPushHighStep_keeps : MicroStep.Keeps false brkPushHighStep := by
  rintro c p _ _ ⟨⟩
  constructor <;> simp +contextual [passed_pushVector]

theorem brkPushLowStep_keeps : MicroStep.Keeps false brkPushLowStep := by
  rintro c p _ _ ⟨⟩
  constructor <;> simp +contextual [passed_pushVector]

theorem brkPushStatusStep_keeps : MicroStep.Keeps false brkPushStatusStep := by
  rintro c p _ _ ⟨⟩
  constructor <;> simp +contextual [passed_pushVector]

theorem brkVectorLowStep_keeps : MicroStep.Keeps false brkVectorLowStep := by
  rintro c p _ _ ⟨⟩
  constructor <;> simp +contextual [passed_setAddress, flag_maskedStatus]

theorem brkVectorHighStep_keeps : MicroStep.Keeps false brkVectorHighStep := by
  rintro c p _ _ ⟨⟩
  constructor <;> simp +contextual [passed_setAddress]

theorem fetchStep_keeps : MicroStep.Keeps true fetchStep := by
  rintro c p _ _ ⟨⟩
  constructor <;> simp +contextual [passed_beginFetch]

theorem jumpStep_keeps : MicroStep.Keeps true jumpStep := by
  rintro c p _ _ ⟨⟩
  constructor <;> simp +contextual [passed_beginFetch]

theorem executeFlagStep_keeps (f : Flag) (v : Bool) (hf : f ≠ .r) : MicroStep.Keeps true (executeFlagStep f v) := by
  rintro c p _ _ ⟨⟩
  constructor <;> simp +contextual [passed_beginFetch, flag_setFlag, hf.symm]

/-- A read operation never writes bit 5 of P. -/
def ReadOp.KeepsReserved (op : ReadOp) : Prop := ∀ a p v a' p', op a p v = some (a', p') → flag p' .r = flag p .r

/-- A shift never writes bit 5 of P. -/
def ShiftOp.KeepsReserved (op : ShiftOp) : Prop := ∀ v p, flag (op v p).2 .r = flag p .r

theorem executeReadStep_keeps {op : ReadOp} (h : op.KeepsReserved) : MicroStep.Keeps true (executeReadStep op) := by
  intro c p c' p' he
  unfold executeReadStep at he
  split at he
  · next a q hop =>
    cases he
    constructor <;> simp +contextual [passed_beginFetch, h _ _ _ _ _ hop]
  · cases he

theorem executeAccumulatorStep_keeps {op : ShiftOp} (h : op.KeepsReserved) :
    MicroStep.Keeps true (executeAccumulatorStep op) := by
  have h : ∀ v p, flag (op v p).2 .r = flag p .r := h
  rintro c p _ _ ⟨⟩
  constructor <;> simp +contextual [passed_beginFetch, h]

theorem modifyStep_keeps {op : ShiftOp} (h : op.KeepsReserved) : MicroStep.Keeps false (modifyStep op) := by
  have h : ∀ v p, flag (op v p).2 .r = flag p .r := h
  rintro c p _ _ ⟨⟩
  constructor <;> simp +contextual [passed_beginWrite, passed_setData, h]

theorem opLda_keeps : ReadOp.KeepsReserved opLda := by
  rintro a p v _ _ ⟨⟩
  simp [flag_setNz]
theorem opOra_keeps : ReadOp.KeepsReserved opOra := by
  rintro a p v _ _ ⟨⟩
  simp [flag_setNz]
theorem opAnd_keeps : ReadOp.KeepsReserved opAnd := by
  rintro a p v _ _ ⟨⟩
  simp [flag_setNz]
theorem opEor_keeps : ReadOp.KeepsReserved opEor := by
  rintro a p v _ _ ⟨⟩
  simp [flag_setNz]
theorem opCmp_keeps : ReadOp.KeepsReserved opCmp := by
  rintro a p v _ _ ⟨⟩
  simp [flag_compareFlags]
theorem opAdc_keeps : ReadOp.KeepsReserved opAdc := by
  intro a p v a' p' h
  unfold opAdc at h
  split at h
  · cases h
  · cases h
    exact flag_adc_other a v p (by decide) (by decide) (by decide) (by decide)
theorem opSbc_keeps : ReadOp.KeepsReserved opSbc := by
  intro a p v a' p' h
  unfold opSbc at h
  split at h
  · cases h
  · cases h
    exact flag_sbc_other a v p (by decide) (by decide) (by decide) (by decide)
theorem asl_keeps : ShiftOp.KeepsReserved asl := fun v p => by simp [asl, flag_setNz, flag_setFlag]
theorem lsr_keeps : ShiftOp.KeepsReserved lsr := fun v p => by simp [lsr, flag_setNz, flag_setFlag]
theorem rol_keeps : ShiftOp.KeepsReserved rol := fun v p => by simp [rol, flag_setNz, flag_setFlag]
theorem ror_keeps : ShiftOp.KeepsReserved ror := fun v p => by simp [ror, flag_setNz, flag_setFlag]

/-- Every step of a program keeps what micro-steps keep, and exactly the final one fetches. -/
def ProgramKeeps : List MicroStep → Prop
  | [] => False
  | [f] => MicroStep.Keeps true f
  | f :: rest => MicroStep.Keeps false f ∧ ProgramKeeps rest

theorem ProgramKeeps.get {program : List MicroStep} (h : ProgramKeeps program) {k : Nat} {f : MicroStep}
    (hk : program[k]? = some f) : MicroStep.Keeps (decide (k + 1 = program.length)) f := by
  induction program generalizing k with
  | nil => cases h
  | cons g rest ih =>
    cases rest with
    | nil =>
      cases k with
      | zero => cases hk; exact h
      | succ k => cases hk
    | cons g' rest' =>
      cases k with
      | zero => cases hk; exact h.1
      | succ k => simpa using ih h.2 (by simpa using hk)

theorem impProgram_keeps (f : Flag) (v : Bool) (hf : f ≠ .r) : ProgramKeeps (impProgram f v) :=
  ⟨dummyReadStep_keeps, executeFlagStep_keeps f v hf⟩
theorem accProgram_keeps {op : ShiftOp} (h : op.KeepsReserved) : ProgramKeeps (accProgram op) :=
  ⟨dummyReadStep_keeps, executeAccumulatorStep_keeps h⟩
theorem immProgram_keeps {op : ReadOp} (h : op.KeepsReserved) : ProgramKeeps (immProgram op) :=
  ⟨operandStep_keeps, executeReadStep_keeps h⟩
theorem absReadProgram_keeps {op : ReadOp} (h : op.KeepsReserved) : ProgramKeeps (absReadProgram op) :=
  ⟨operandStep_keeps, operandHighStep_keeps, readEffectiveStep_keeps, executeReadStep_keeps h⟩
theorem absWriteProgram_keeps : ProgramKeeps absWriteProgram :=
  ⟨operandStep_keeps, operandHighStep_keeps, storeAccumulatorStep_keeps, fetchStep_keeps⟩
theorem absModifyProgram_keeps {op : ShiftOp} (h : op.KeepsReserved) : ProgramKeeps (absModifyProgram op) :=
  ⟨operandStep_keeps, operandHighStep_keeps, readEffectiveStep_keeps, dummyWriteStep_keeps, modifyStep_keeps h,
    fetchStep_keeps⟩
theorem jmpProgram_keeps : ProgramKeeps jmpProgram := ⟨operandStep_keeps, operandHighStep_keeps, jumpStep_keeps⟩
theorem jsrProgram_keeps : ProgramKeeps jsrProgram :=
  ⟨operandStep_keeps, peekStackStep_keeps, pushStep_keeps hi, pushStep_keeps lo, dummyReadStep_keeps, jumpStep_keeps⟩
theorem brkProgram_keeps : ProgramKeeps brkProgram :=
  ⟨dummyReadStep_keeps, brkPushHighStep_keeps, brkPushLowStep_keeps, brkPushStatusStep_keeps, brkVectorLowStep_keeps,
    brkVectorHighStep_keeps, jumpStep_keeps⟩

/-- A program found in the table is one of its entries. -/
theorem mem_of_lookup {l : List (Byte × List MicroStep)} {op : Byte} {program : List MicroStep}
    (h : l.lookup op = some program) : (op, program) ∈ l := by
  induction l with
  | nil => cases h
  | cons e rest ih =>
    obtain ⟨k, q⟩ := e
    by_cases hk : op = k
    · subst hk
      simp at h
      simp [h]
    · have : (op == k) = false := by simp [hk]
      simp only [List.lookup, this] at h
      exact List.mem_cons_of_mem _ (ih h)

/-- The programs of the table, in its order. -/
theorem programTable_keeps : ∀ e ∈ programTable, ProgramKeeps e.2 := by
  simp only [programTable, List.forall_mem_cons]
  exact ⟨brkProgram_keeps, immProgram_keeps opOra_keeps, accProgram_keeps asl_keeps,
    absReadProgram_keeps opOra_keeps, absModifyProgram_keeps asl_keeps, impProgram_keeps _ _ (by decide),
    jsrProgram_keeps, immProgram_keeps opAnd_keeps, accProgram_keeps rol_keeps,
    absReadProgram_keeps opAnd_keeps, absModifyProgram_keeps rol_keeps, impProgram_keeps _ _ (by decide),
    immProgram_keeps opEor_keeps, accProgram_keeps lsr_keeps, jmpProgram_keeps,
    absReadProgram_keeps opEor_keeps, absModifyProgram_keeps lsr_keeps, impProgram_keeps _ _ (by decide),
    immProgram_keeps opAdc_keeps, accProgram_keeps ror_keeps, absReadProgram_keeps opAdc_keeps,
    absModifyProgram_keeps ror_keeps, impProgram_keeps _ _ (by decide), absWriteProgram_keeps,
    immProgram_keeps opLda_keeps, absReadProgram_keeps opLda_keeps, impProgram_keeps _ _ (by decide),
    immProgram_keeps opCmp_keeps, absReadProgram_keeps opCmp_keeps, impProgram_keeps _ _ (by decide),
    immProgram_keeps opSbc_keeps, absReadProgram_keeps opSbc_keeps, impProgram_keeps _ _ (by decide), by simp⟩

theorem programTable_length : ∀ e ∈ programTable, e.2.length ≤ 7 := by
  simp [programTable, brkProgram, immProgram, accProgram, absReadProgram, absModifyProgram, impProgram, jsrProgram,
    jmpProgram, absWriteProgram]

/-- Everything a dispatch that did not fault has done. -/
theorem dispatch_ok {c c' : Core} {p p' : Pins} (h : dispatch c p = .ok (c', p')) :
    ∃ program, microProgram c.ir.opcode = some program ∧ c.ir.step.toNat < program.length ∧ program.length ≤ 7 ∧
      MicroFacts (decide (c.ir.step.toNat + 1 = program.length)) c p c' p' := by
  unfold dispatch at h
  split at h
  · cases h
  · next program hp =>
    split at h
    · cases h
    · next f hf =>
      have ht := mem_of_lookup hp
      exact ⟨program, hp, (List.getElem?_eq_some_iff.mp hf).1, programTable_length _ ht,
        (programTable_keeps _ ht).get hf c p c' p' h⟩

end Sys2Proof.Machine
end

