-- ==== Sys2Proof/Laws/Ops.lean ====
section
/-! SUPPORT. One lemma per shared operation that says once everything it can do: the ticks that pass, the queued fetch,
the push, the BRK sequence, and the templates of Operands.lean. Later proofs cite these and do not unfold. -/

namespace Sys2Proof.Machine

/-- What a number of non-SYNC ticks leaves alone. -/
structure State.SameButTicks (s t : State) : Prop where
  a : t.core.a = s.core.a
  x : t.core.x = s.core.x
  y : t.core.y = s.core.y
  sp : t.core.s = s.core.s
  p : t.core.p = s.core.p
  pc : t.core.pc = s.core.pc
  ad : t.core.ad = s.core.ad
  brkFlags : t.core.brkFlags = s.core.brkFlags
  fault : t.core.fault = s.core.fault
  mem : t.mem = s.mem
  map : t.map = s.map
  address : getAddress t.pins = getAddress s.pins
  data : getData t.pins = getData s.pins

theorem State.passTick_same (b : Bool) (s : State) : s.SameButTicks (s.passTick b) := by
  constructor <;> simp

theorem State.SameButTicks.trans {s t u : State} (h : s.SameButTicks t) (h' : t.SameButTicks u) : s.SameButTicks u where
  a := h'.a.trans h.a
  x := h'.x.trans h.x
  y := h'.y.trans h.y
  sp := h'.sp.trans h.sp
  p := h'.p.trans h.p
  pc := h'.pc.trans h.pc
  ad := h'.ad.trans h.ad
  brkFlags := h'.brkFlags.trans h.brkFlags
  fault := h'.fault.trans h.fault
  mem := h'.mem.trans h.mem
  map := h'.map.trans h.map
  address := h'.address.trans h.address
  data := h'.data.trans h.data

theorem State.passTicks_same (n : Nat) (s : State) : s.SameButTicks (s.passTicks n) := by
  induction n generalizing s with
  | zero => constructor <;> rfl
  | succ n ih => exact (s.passTick_same false).trans (ih _)

/-- Whatever the instruction, its ticks change the pipelines, the snapshot and the input pins alone. -/
theorem State.instrTicks_same (n : Nat) (s : State) : s.SameButTicks (s.instrTicks n) :=
  (s.passTick_same true).trans (State.passTicks_same _ _)

@[simp] theorem State.instrTicks_a (n : Nat) (s : State) : (s.instrTicks n).core.a = s.core.a := (s.instrTicks_same n).a
@[simp] theorem State.instrTicks_x (n : Nat) (s : State) : (s.instrTicks n).core.x = s.core.x := (s.instrTicks_same n).x
@[simp] theorem State.instrTicks_y (n : Nat) (s : State) : (s.instrTicks n).core.y = s.core.y := (s.instrTicks_same n).y
@[simp] theorem State.instrTicks_s (n : Nat) (s : State) : (s.instrTicks n).core.s = s.core.s := (s.instrTicks_same n).sp
@[simp] theorem State.instrTicks_p (n : Nat) (s : State) : (s.instrTicks n).core.p = s.core.p := (s.instrTicks_same n).p
@[simp] theorem State.instrTicks_pc (n : Nat) (s : State) : (s.instrTicks n).core.pc = s.core.pc :=
  (s.instrTicks_same n).pc
@[simp] theorem State.instrTicks_ad (n : Nat) (s : State) : (s.instrTicks n).core.ad = s.core.ad :=
  (s.instrTicks_same n).ad
@[simp] theorem State.instrTicks_brkFlags (n : Nat) (s : State) : (s.instrTicks n).core.brkFlags = s.core.brkFlags :=
  (s.instrTicks_same n).brkFlags
@[simp] theorem State.instrTicks_fault (n : Nat) (s : State) : (s.instrTicks n).core.fault = s.core.fault :=
  (s.instrTicks_same n).fault
@[simp] theorem State.instrTicks_mem (n : Nat) (s : State) : (s.instrTicks n).mem = s.mem := (s.instrTicks_same n).mem
@[simp] theorem State.instrTicks_map (n : Nat) (s : State) : (s.instrTicks n).map = s.map := (s.instrTicks_same n).map
@[simp] theorem State.instrTicks_readByte (n : Nat) (s : State) (a : Word) : (s.instrTicks n).readByte a = s.readByte a :=
  State.readByte_congr (s.instrTicks_map n) (s.instrTicks_mem n) a
@[simp] theorem State.passTick_readByte (b : Bool) (s : State) (a : Word) : (s.passTick b).readByte a = s.readByte a := rfl
@[simp] theorem State.passTicks_readByte (n : Nat) (s : State) (a : Word) : (s.passTicks n).readByte a = s.readByte a :=
  State.readByte_congr (s.passTicks_same n).map (s.passTicks_same n).mem a

theorem State.passTicks_inputs (n : Nat) (s : State) : (s.passTicks n).inputs = s.inputs.drop n := by
  induction n generalizing s with
  | zero => rfl
  | succ n ih => simp [State.passTicks, ih, List.drop_tail]

/-- The state a queued fetch leaves, given the byte at PC. -/
theorem State.fetchNext_of_some {s : State} {v : Byte} (opcode : Byte) (len : BitVec 3) (bus : Byte)
    (h : s.readByte s.core.pc = some v) :
    s.fetchNext opcode len bus = .next
      { s with
        core := { s.core with
          ir := ⟨opcode, len⟩, pinsPrev := beginFetch (beginRead (setData s.pins bus)) s.core.pc },
        pins := setData (beginFetch (beginRead (setData s.pins bus)) s.core.pc) v } := by
  have h' : ∀ c p, ({ s with core := c, pins := p } : State).readByte s.core.pc = some v := fun _ _ => h
  simp [State.fetchNext, State.serve, State.readThen, h']

/-- Everything a queued fetch can do when it answers: IR, the snapshot and the pins change, and an instruction starts at
PC (`40_engine.md` R113). -/
theorem State.fetchNext_next {s t : State} {opcode : Byte} {len : BitVec 3} {bus : Byte}
    (h : s.fetchNext opcode len bus = .next t) :
    t.StartsAt s.core.pc ∧ t.mem = s.mem ∧ t.map = s.map ∧ t.inputs = s.inputs ∧
      t.core = { s.core with ir := ⟨opcode, len⟩, pinsPrev := t.core.pinsPrev } := by
  cases hv : s.readByte s.core.pc with
  | none =>
    have h' : ∀ c p, ({ s with core := c, pins := p } : State).readByte s.core.pc = none := fun _ _ => hv
    simp [State.fetchNext, State.serve, State.readThen, h'] at h
  | some v =>
    rw [State.fetchNext_of_some opcode len bus hv] at h
    cases h
    refine ⟨⟨rfl, by simp, by simp, by simp, ?_⟩, rfl, rfl, rfl, rfl⟩
    rw [getData_setData]
    exact hv

/-- A queued fetch answers exactly where PC is mapped, and stops there otherwise (`20_memory.md` R58). -/
theorem State.fetchNext_of_none {s : State} (opcode : Byte) (len : BitVec 3) (bus : Byte)
    (h : s.readByte s.core.pc = none) : s.fetchNext opcode len bus = .fault (.unmappedRead s.core.pc) := by
  have h' : ∀ c p, ({ s with core := c, pins := p } : State).readByte s.core.pc = none := fun _ _ => h
  simp [State.fetchNext, State.serve, State.readThen, h']

/-- A push of the BRK sequence, given that its cycle is served: S is decremented; memory is that of a push, or for a reset
unchanged. -/
theorem State.pushOrRead_eq {s : State} (reset : Bool) (v : Byte) (k : State → Result)
    (h : reset = true → s.Mapped s.core.stackAddress) :
    s.pushOrRead reset v k =
      k (if reset then { s with core := { s.core with s := s.core.s - 1#8 } } else s.push v) := by
  cases reset with
  | false => rfl
  | true => simp [State.pushOrRead, State.readThen_of_some (State.readByte_of_mapped (h rfl))]

theorem State.pushOrRead_next {s t : State} {reset : Bool} {v : Byte} {k : State → Result}
    (h : s.pushOrRead reset v k = .next t) :
    k (if reset then { s with core := { s.core with s := s.core.s - 1#8 } } else s.push v) = .next t := by
  cases reset with
  | false => exact h
  | true =>
    obtain ⟨_, _, h⟩ := State.readThen_next h
    exact h

end Sys2Proof.Machine
end

