-- ==== Sys2Proof/Laws/Templates.lean ====
section
/-! SUPPORT. What each template of Operands.lean, JMP, JSR and the BRK sequence can do when it answers a next state: the
inversion lemmas that the invariants and the frames are derived from. -/

namespace Sys2Proof.Machine

/-- What every instruction and every interrupt sequence leaves behind (`40_engine.md` R113). -/
structure State.Done (s t : State) (opcode : Byte) (len : BitVec 3) : Prop where
  x : t.core.x = s.core.x
  y : t.core.y = s.core.y
  fault : t.core.fault = s.core.fault
  map : t.map = s.map
  ir : t.core.ir = ⟨opcode, len⟩
  starts : t.StartsAt t.core.pc
  wf : s.mem.wf = true → t.mem.wf = true
  rom : ∀ b, ¬ s.Writable b → t.readByte b = s.readByte b

/-- An instruction that ends with `fetchNext` from a state that differs from its start as an instruction may. -/
theorem State.fetchNext_done {s u t : State} {opcode : Byte} {len : BitVec 3} {bus : Byte}
    (h : u.fetchNext opcode len bus = .next t) (x : u.core.x = s.core.x) (y : u.core.y = s.core.y)
    (fault : u.core.fault = s.core.fault) (map : u.map = s.map) (wf : s.mem.wf = true → u.mem.wf = true)
    (rom : ∀ b, ¬ s.Writable b → u.readByte b = s.readByte b) :
    s.Done t opcode len ∧ t.core = { u.core with ir := ⟨opcode, len⟩, pinsPrev := t.core.pinsPrev } ∧ t.mem = u.mem := by
  obtain ⟨hs, hmem, hmap, -, hcore⟩ := State.fetchNext_next h
  have hpc : t.core.pc = u.core.pc := by rw [hcore]
  refine ⟨⟨?_, ?_, ?_, hmap.trans map, ?_, hpc ▸ hs, ?_, ?_⟩, hcore, hmem⟩
  · rw [hcore]; exact x
  · rw [hcore]; exact y
  · rw [hcore]; exact fault
  · rw [hcore]
  · rw [hmem]; exact wf
  · intro b hb
    rw [State.readByte_congr hmap hmem]
    exact rom b hb

/-- A write keeps what is not writable. -/
theorem State.readByte_writeByte_rom (s : State) (a : Word) (v : Byte) {b : Word} (hb : ¬ s.Writable b) :
    (s.writeByte a v).readByte b = s.readByte b := by
  by_cases h : b = a
  · subst h
    rw [State.writeByte_dropped v hb]
  · exact State.readByte_writeByte_other s v h

theorem immediate_next {opcode v : Byte} {op : ReadOp} {s t : State} (h : immediate opcode op v s = .next t) :
    s.Done t opcode 2#3 ∧ t.mem = s.mem ∧
      ∃ a p, op s.core.a s.core.p v = some (a, p) ∧
        t.core = { (s.instrTicks 2).core with
          a := a, p := p, pc := s.core.pc + 2#16, ir := ⟨opcode, 2#3⟩, pinsPrev := t.core.pinsPrev } := by
  simp only [immediate, State.instrTicks_a, State.instrTicks_p] at h
  split at h
  · next a p hop =>
    obtain ⟨hd, hc, hm⟩ := State.fetchNext_done (s := s) h (by simp) (by simp) (by simp) (by simp) (by simp)
      (fun b _ => State.readByte_congr (by simp) (by simp) b)
    exact ⟨hd, by simpa using hm, a, p, hop, by simpa [State.byteAddress] using hc⟩
  · cases h

theorem absoluteRead_next {opcode : Byte} {addr : Word} {op : ReadOp} {s t : State}
    (h : absoluteRead opcode op addr s = .next t) :
    s.Done t opcode 4#3 ∧ t.mem = s.mem ∧
      ∃ v a p, s.readByte addr = some v ∧ op s.core.a s.core.p v = some (a, p) ∧
        t.core = { (s.instrTicks 4).core with
          a := a, p := p, ad := addr, pc := s.core.pc + 3#16, ir := ⟨opcode, 4#3⟩, pinsPrev := t.core.pinsPrev } := by
  obtain ⟨v, hv, h⟩ := State.readThen_next h
  simp only [State.instrTicks_a, State.instrTicks_p] at h
  split at h
  · next a p hop =>
    obtain ⟨hd, hc, hm⟩ := State.fetchNext_done (s := s) h (by simp) (by simp) (by simp) (by simp) (by simp)
      (fun b _ => State.readByte_congr (by simp) (by simp) b)
    exact ⟨hd, by simpa using hm, v, a, p, by simpa using hv, hop, by simpa [State.byteAddress] using hc⟩
  · cases h

theorem absoluteWrite_next {opcode v : Byte} {addr : Word} {s t : State}
    (h : absoluteWrite opcode v addr s = .next t) :
    s.Done t opcode 4#3 ∧ t.mem = (s.writeByte addr v).mem ∧
      t.core = { (s.instrTicks 4).core with
        ad := addr, pc := s.core.pc + 3#16, ir := ⟨opcode, 4#3⟩, pinsPrev := t.core.pinsPrev } := by
  have hmem : ((s.instrTicks 4).writeByte addr v).mem = (s.writeByte addr v).mem := by simp [State.writeByte]; split <;> simp
  have hmap : ((s.instrTicks 4).writeByte addr v).map = (s.writeByte addr v).map := by simp
  obtain ⟨hd, hc, hm⟩ := State.fetchNext_done (s := s) h (by simp) (by simp) (by simp) (by simp)
    (fun hw => by rw [hmem]; exact State.writeByte_wf addr v hw)
    (fun b hb => (State.readByte_congr hmap hmem b).trans (State.readByte_writeByte_rom s addr v hb))
  exact ⟨hd, hm.trans hmem, by simpa [State.byteAddress] using hc⟩

theorem absoluteModify_next {opcode : Byte} {addr : Word} {op : ShiftOp} {s t : State}
    (h : absoluteModify opcode op addr s = .next t) :
    s.Done t opcode 6#3 ∧
      ∃ m, s.readByte addr = some m ∧
        t.mem = ((s.writeByte addr m).writeByte addr (op m s.core.p).1).mem ∧
        t.core = { (s.instrTicks 6).core with
          p := (op m s.core.p).2, ad := m.setWidth 16, pc := s.core.pc + 3#16, ir := ⟨opcode, 6#3⟩,
          pinsPrev := t.core.pinsPrev } := by
  obtain ⟨m, hm, h⟩ := State.readThen_next h
  simp only [State.instrTicks_p] at h
  refine Exists.elim (p := fun rp => op m s.core.p = rp) ⟨_, rfl⟩ fun rp hop => ?_
  obtain ⟨r, p⟩ := rp
  simp only [hop] at h
  have hmem : (((s.instrTicks 6).writeByte addr m).writeByte addr r).mem = ((s.writeByte addr m).writeByte addr r).mem := by
    simp only [State.writeByte, State.instrTicks_map]
    split <;> simp [*]
  have hmap : (((s.instrTicks 6).writeByte addr m).writeByte addr r).map = ((s.writeByte addr m).writeByte addr r).map := by
    simp
  obtain ⟨hd, hc, hm'⟩ := State.fetchNext_done (s := s) h (by simp) (by simp) (by simp) (by simp)
    (fun hw => by rw [hmem]; exact State.writeByte_wf addr r (State.writeByte_wf addr m hw))
    (fun b hb => (State.readByte_congr hmap hmem b).trans
      ((State.readByte_writeByte_rom (s.writeByte addr m) addr r (by simpa using hb)).trans
        (State.readByte_writeByte_rom s addr m hb)))
  refine ⟨hd, m, by simpa using hm, ?_, ?_⟩
  · rw [hop]
    exact hm'.trans hmem
  · rw [hop]
    simpa [State.byteAddress] using hc

theorem accumulator_next {opcode : Byte} {op : ShiftOp} {s t : State} (h : accumulator opcode op s = .next t) :
    s.Done t opcode 2#3 ∧ t.mem = s.mem ∧
      t.core = { (s.instrTicks 2).core with
        a := (op s.core.a s.core.p).1, p := (op s.core.a s.core.p).2, pc := s.core.pc + 1#16, ir := ⟨opcode, 2#3⟩,
        pinsPrev := t.core.pinsPrev } := by
  obtain ⟨d, -, h⟩ := State.readThen_next h
  simp only [State.instrTicks_a, State.instrTicks_p] at h
  obtain ⟨hd, hc, hm⟩ := State.fetchNext_done (s := s) h (by simp) (by simp) (by simp) (by simp) (by simp)
    (fun b _ => State.readByte_congr (by simp) (by simp) b)
  exact ⟨hd, by simpa using hm, by simpa [State.byteAddress] using hc⟩

theorem impliedFlag_next {opcode : Byte} {f : Flag} {value : Bool} {s t : State}
    (h : impliedFlag opcode f value s = .next t) :
    s.Done t opcode 2#3 ∧ t.mem = s.mem ∧
      t.core = { (s.instrTicks 2).core with
        p := setFlag s.core.p f value, pc := s.core.pc + 1#16, ir := ⟨opcode, 2#3⟩, pinsPrev := t.core.pinsPrev } := by
  obtain ⟨d, -, h⟩ := State.readThen_next h
  obtain ⟨hd, hc, hm⟩ := State.fetchNext_done (s := s) h (by simp) (by simp) (by simp) (by simp) (by simp)
    (fun b _ => State.readByte_congr (by simp) (by simp) b)
  exact ⟨hd, by simpa using hm, by simpa [State.byteAddress] using hc⟩

theorem execJmp_next {addr : Word} {s t : State} (h : execJmp addr s = .next t) :
    s.Done t 0x4C#8 3#3 ∧ t.mem = s.mem ∧
      t.core = { (s.instrTicks 3).core with
        pc := addr, ad := (lo addr).setWidth 16, ir := ⟨0x4C#8, 3#3⟩, pinsPrev := t.core.pinsPrev } := by
  obtain ⟨hd, hc, hm⟩ := State.fetchNext_done (s := s) h (by simp) (by simp) (by simp) (by simp) (by simp)
    (fun b _ => State.readByte_congr (by simp) (by simp) b)
  exact ⟨hd, by simpa using hm, by simpa using hc⟩

/-- A push keeps the canonical form and what is not writable, and writes its one stack address alone. -/
theorem State.push_wf {s : State} (v : Byte) (h : s.mem.wf = true) : (s.push v).mem.wf = true := by
  rw [State.push_mem]
  exact State.writeByte_wf _ v h

theorem State.readByte_push_rom (s : State) (v : Byte) {b : Word} (hb : ¬ s.Writable b) :
    (s.push v).readByte b = s.readByte b :=
  (State.readByte_congr (by simp) (State.push_mem s v) b).trans (State.readByte_writeByte_rom s _ v hb)

theorem State.readByte_push_other (s : State) (v : Byte) {b : Word} (hb : b ≠ s.core.stackAddress) :
    (s.push v).readByte b = s.readByte b :=
  (State.readByte_congr (by simp) (State.push_mem s v) b).trans (State.readByte_writeByte_other s v hb)

theorem State.readByte_push_same {s : State} (v : Byte) (h : s.Writable s.core.stackAddress) (hw : s.mem.wf = true) :
    (s.push v).readByte s.core.stackAddress = some v :=
  (State.readByte_congr (by simp) (State.push_mem s v) _).trans (State.readByte_writeByte_same v h hw)

theorem execJsr_next {addr : Word} {s t : State} (h : execJsr addr s = .next t) :
    s.Done t 0x20#8 6#3 ∧
      t.mem = (((s.instrTicks 6).push (hi (s.core.pc + 2#16))).push (lo (s.core.pc + 2#16))).mem ∧
      ∃ hb, (((s.instrTicks 6).push (hi (s.core.pc + 2#16))).push (lo (s.core.pc + 2#16))).readByte (s.core.pc + 2#16)
          = some hb ∧
        t.core = { (s.instrTicks 6).core with
          s := s.core.s - 1#8 - 1#8, pc := join hb (lo addr), ad := (lo addr).setWidth 16, ir := ⟨0x20#8, 6#3⟩,
          pinsPrev := t.core.pinsPrev } := by
  obtain ⟨d, -, h⟩ := State.readThen_next h
  obtain ⟨hb, hhb, h⟩ := State.readThen_next h
  simp only [State.byteAddress, State.instrTicks_pc] at h hhb
  have hcore : (((s.instrTicks 6).push (hi (s.core.pc + 2#16))).push (lo (s.core.pc + 2#16))).core =
      { (s.instrTicks 6).core with s := s.core.s - 1#8 - 1#8 } := by
    simp [State.push]
  obtain ⟨hd, hc, hm⟩ := State.fetchNext_done (s := s) h (by simp) (by simp) (by simp) (by simp)
    (fun hw => State.push_wf _ (State.push_wf _ (by simpa using hw)))
    (fun b hb => (State.readByte_push_rom _ _ (by simpa using hb)).trans
      ((State.readByte_push_rom _ _ (by simpa using hb)).trans (State.instrTicks_readByte 6 s b)))
  refine ⟨hd, hm, hb, hhb, ?_⟩
  rw [hc, hcore]

/-- What a push of the BRK sequence does, written or read back. -/
structure State.Pushed (reset : Bool) (s u : State) : Prop where
  core : u.core = { s.core with s := s.core.s - 1#8 }
  map : u.map = s.map
  wf : s.mem.wf = true → u.mem.wf = true
  rom : ∀ b, ¬ s.Writable b → u.readByte b = s.readByte b
  mem : reset = true → u.mem = s.mem

theorem State.pushed (reset : Bool) (v : Byte) (s : State) :
    State.Pushed reset s (if reset then { s with core := { s.core with s := s.core.s - 1#8 } } else s.push v) := by
  cases reset with
  | true => exact ⟨rfl, rfl, id, fun _ _ => rfl, fun _ => rfl⟩
  | false =>
    exact ⟨by simp [State.push], by simp, State.push_wf v, fun b hb => State.readByte_push_rom s v hb, fun h => by cases h⟩

/-- Everything a BRK sequence can do when it answers (`60_exceptions.md` R222 to R228). -/
theorem State.brkSequence_next {s t : State} {flags : BitVec 3} (h : s.brkSequence flags = .next t) :
    s.Done t 0x00#8 7#3 ∧ t.core.a = s.core.a ∧ t.core.s = s.core.s - 1#8 - 1#8 - 1#8 ∧
      t.core.p = maskedStatus s.core.p ∧ t.core.brkFlags = 0#3 ∧ (resetPending flags = true → t.mem = s.mem) ∧
      ∃ l hb, t.core.pc = join hb l ∧ t.core.ad = l.setWidth 16 ∧
        t.readByte (vectorFor flags) = some l ∧ t.readByte (vectorFor flags + 1#16) = some hb := by
  unfold State.brkSequence at h
  have hu := s.passTicks_same 4
  generalize s.passTicks 4 = u at h hu
  simp only [hu.pc] at h
  replace h := State.pushOrRead_next (State.pushOrRead_next (State.pushOrRead_next h))
  generalize hi (returnAddress flags s.core.pc) = v1 at h
  generalize lo (returnAddress flags s.core.pc) = v2 at h
  have h1 := State.pushed (resetPending flags) v1 u
  generalize (if resetPending flags = true then { u with core := { u.core with s := u.core.s - 1#8 } } else u.push v1) = u1
    at h h1
  have h2 := State.pushed (resetPending flags) v2 u1
  generalize (if resetPending flags = true then { u1 with core := { u1.core with s := u1.core.s - 1#8 } } else u1.push v2)
    = u2 at h h2
  have h3 := State.pushed (resetPending flags) (pushedStatus u2.core.p) u2
  generalize (if resetPending flags = true then { u2 with core := { u2.core with s := u2.core.s - 1#8 } }
    else u2.push (pushedStatus u2.core.p)) = u3 at h h3
  obtain ⟨l, hl, h⟩ := State.readThen_next h
  obtain ⟨hb, hhb, h⟩ := State.readThen_next h
  have hcore : u3.core = { u.core with s := u.core.s - 1#8 - 1#8 - 1#8 } := by rw [h3.core, h2.core, h1.core]
  have hmap : u3.map = s.map := h3.map.trans (h2.map.trans (h1.map.trans hu.map))
  have w1 : ∀ b, ¬ s.Writable b → ¬ u.Writable b := fun b hw => by simpa [hu.map] using hw
  have w2 : ∀ b, ¬ s.Writable b → ¬ u1.Writable b := fun b hw => by simpa [h1.map] using w1 b hw
  have w3 : ∀ b, ¬ s.Writable b → ¬ u2.Writable b := fun b hw => by simpa [h2.map] using w2 b hw
  have hq := ({ u3 with core := { u3.core with p := maskedStatus u3.core.p, brkFlags := 0#3 } } : State).passTicks_same 2
  generalize (({ u3 with core := { u3.core with p := maskedStatus u3.core.p, brkFlags := 0#3 } } : State).passTicks 2) = q
    at h hq hhb
  obtain ⟨hd, hc, hm⟩ := State.fetchNext_done (s := s) h (by simp [hq.x, hcore, hu.x]) (by simp [hq.y, hcore, hu.y])
    (by simp [hq.fault, hcore, hu.fault]) (by simp [hq.map, hmap])
    (fun hw => by simpa [hq.mem] using h3.wf (h2.wf (h1.wf (by rw [hu.mem]; exact hw))))
    (fun b hw => (State.readByte_congr (by simp [hq.map]) (by simp [hq.mem]) b : _ = u3.readByte b).trans
      ((h3.rom b (w3 b hw)).trans ((h2.rom b (w2 b hw)).trans ((h1.rom b (w1 b hw)).trans
        (State.readByte_congr hu.map hu.mem b)))))
  have htm : t.mem = u3.mem := by simpa [hq.mem] using hm
  have htr : ∀ b, t.readByte b = u3.readByte b := State.readByte_congr (by simp [hd.map, hmap]) htm
  refine ⟨hd, by rw [hc]; simp [hq.a, hcore, hu.a], by rw [hc]; simp [hq.sp, hcore, hu.sp], by rw [hc]; simp [hq.p, hcore, hu.p],
    by rw [hc]; simp [hq.brkFlags], fun hr => ?_, l, hb, by rw [hc], by rw [hc], (htr _).trans hl, (htr _).trans ?_⟩
  · rw [htm, h3.mem hr, h2.mem hr, h1.mem hr, hu.mem]
  · rw [← hhb]
    exact (State.readByte_congr hq.map hq.mem _).symm

end Sys2Proof.Machine
end

