-- ==== Sys2Proof/Laws/Tick.lean ====
section
/-! SUPPORT. Said once about a tick and a system cycle that answer: what they can change (`40_engine.md` R92 to R103,
`20_memory.md` R57). The invariants and the whole-machine rules are derived from these. -/

namespace Sys2Proof.Machine

/-- The pipelines as phases 1 and 2 of a tick leave them (R93, R94, R97). -/
def tickIrqPip (c : Core) (p : Pins) : BitVec 16 :=
  if pin p .sync then keepYoung (sampleIrq (flag c.p .i) (pin p .irqb) c.irqPip)
  else sampleIrq (flag c.p .i) (pin p .irqb) c.irqPip

/-- See `tickIrqPip`. -/
def tickNmiPip (c : Core) (p : Pins) : BitVec 16 :=
  if pin p .sync then keepYoung (sampleNmi (pin c.pinsPrev .nmib) (pin p .nmib) c.nmiPip)
  else sampleNmi (pin c.pinsPrev .nmib) (pin p .nmib) c.nmiPip

/-- What phases 1 to 3 leave alone, and what they make of the pipelines. -/
structure BeforeFacts (c : Core) (p : Pins) (d : Core) : Prop where
  a : d.a = c.a
  x : d.x = c.x
  y : d.y = c.y
  s : d.s = c.s
  ad : d.ad = c.ad
  pinsPrev : d.pinsPrev = c.pinsPrev
  fault : d.fault = c.fault
  irqPip : d.irqPip = tickIrqPip c p
  nmiPip : d.nmiPip = tickNmiPip c p
  flags : ∀ f, f ≠ .b → flag d.p f = flag c.p f

theorem Core.hijackOrAdvance_cases (c : Core) :
    c.hijackOrAdvance = c.redirect ∨ c.hijackOrAdvance = { c with pc := c.pc + 1#16 } := by
  unfold Core.hijackOrAdvance
  split
  · exact .inl rfl
  · exact .inr rfl

theorem Core.detectReset_cases (c : Core) (p : Pins) :
    c.detectReset p = c ∨ c.detectReset p = { c with brkFlags := c.brkFlags ||| resetFlag }.redirect := by
  unfold Core.detectReset
  split
  · exact .inl rfl
  · exact .inr rfl

theorem Core.beforeDispatch_facts (c : Core) (p : Pins) : BeforeFacts c p (c.beforeDispatch p) := by
  unfold Core.beforeDispatch
  cases hs : pin p .sync
  · simp only [Bool.false_eq_true, if_false]
    rcases Core.detectReset_cases (c.detect p) p with h | h <;> rw [h] <;> constructor <;>
      simp +contextual [Core.detect, Core.redirect, tickIrqPip, tickNmiPip, hs, flag_setFlag]
  · simp only [if_true]
    rcases Core.detectReset_cases (c.detect p) p with h | h <;> rw [h] <;>
      rcases Core.hijackOrAdvance_cases (Core.recognise (Core.latch _ p)) with h' | h' <;> rw [h'] <;> constructor <;>
      simp +contextual [Core.detect, Core.redirect, Core.latch, Core.recognise, tickIrqPip, tickNmiPip, hs, flag_setFlag]

/-- Phases 1 to 3 of a tick in the middle of an instruction with RESB high: the detectors alone (R93 to R95). -/
theorem Core.beforeDispatch_of_inside {c : Core} {p : Pins} (hs : pin p .sync = false) (hr : pin p .resb = true) :
    c.beforeDispatch p = c.detect p := by
  simp [Core.beforeDispatch, Core.detectReset, hs, hr]

/-- This tick's samples enter at bit 0 and are too young to be recognised (R93, R94, R97). -/
theorem recognised_samples (flags : BitVec 3) (irqPip nmiPip : BitVec 16) (before now iFlag level : Bool) :
    recognised flags (sampleIrq iFlag level irqPip) (sampleNmi before now nmiPip) = recognised flags irqPip nmiPip := by
  have h : ∀ v m : BitVec 16, m &&& 1#16 = 0#16 → (v ||| 1#16) &&& m = v &&& m := by
    intro v m hm
    rw [BitVec.and_comm, BitVec.and_or_distrib_left, hm, BitVec.or_zero, BitVec.and_comm]
  have hi : sampleIrq iFlag level irqPip &&& 0x0004#16 = irqPip &&& 0x0004#16 := by
    unfold sampleIrq
    split
    · exact h _ _ (by decide)
    · rfl
  have hn : sampleNmi before now nmiPip &&& 0xFFFC#16 = nmiPip &&& 0xFFFC#16 := by
    unfold sampleNmi
    split
    · exact h _ _ (by decide)
    · rfl
  simp only [recognised, hi, hn]

/-- Phases 1 to 3 of a SYNC tick that finds nothing pending, with RESB high: the opcode is latched, the young samples are
kept, and PC leaves the opcode's address (R93 to R98). -/
theorem Core.beforeDispatch_of_sync {c : Core} {p : Pins} (hs : pin p .sync = true) (hr : pin p .resb = true)
    (hq : recognised c.brkFlags c.irqPip c.nmiPip = 0#3) :
    c.beforeDispatch p =
      { c with
        ir := ⟨getData p, 0#3⟩, pc := c.pc + 1#16, brkFlags := 0#3, irqPip := tickIrqPip c p,
        nmiPip := tickNmiPip c p } := by
  simp [Core.beforeDispatch, Core.detectReset, Core.detect, Core.latch, Core.recognise, Core.hijackOrAdvance, hs, hr,
    recognised_samples, hq, tickIrqPip, tickNmiPip]

/-- A rising-edge call of a live core is an engine tick (R90). -/
theorem tick_of_edge {c : Core} {p : Pins} (hf : c.fault = none) (h0 : pin c.pinsPrev .phi2 = false)
    (h1 : pin p .phi2 = true) : tick c p = tickEdge c p := by
  simp [tick, hf, risingEdge, h0, h1]

/-- A tick whose dispatch faults leaves the core as phases 1 to 3 made it, with the mark set (R112). -/
theorem tickEdge_of_error {c : Core} {p : Pins} {f : EngineFault}
    (h : dispatch (c.beforeDispatch p) (pinsBeforeDispatch p) = .error f) :
    tickEdge c p = .raised f { c.beforeDispatch p with fault := some f } := by
  simp [tickEdge, h]

/-- Everything a tick that returned has done to the fields it may not touch freely. -/
structure TickFacts (c : Core) (p : Pins) (c' : Core) (p' : Pins) : Prop where
  x : c'.x = c.x
  y : c'.y = c.y
  fault : c'.fault = c.fault
  reserved : flag c'.p .r = flag c.p .r
  irqPip : c'.irqPip = agePip (tickIrqPip c p)
  nmiPip : c'.nmiPip = agePip (tickNmiPip c p)
  pinsPrev : c'.pinsPrev = p'
  passed : ∀ k, k < 6 ∨ 32 ≤ k → p'.getLsbD k = p.getLsbD k
  fetch : pin p' .sync = true → pin p' .rwb = true ∧ getAddress p' = c'.pc
  step : ∃ program, microProgram c'.ir.opcode = some program ∧ 1 ≤ c'.ir.step.toNat ∧
    c'.ir.step.toNat ≤ program.length ∧ program.length ≤ 7 ∧
    (pin p' .sync = true ↔ c'.ir.step.toNat = program.length)

theorem pinsBeforeDispatch_sync (p : Pins) : pin (pinsBeforeDispatch p) .sync = false := by
  simp [pinsBeforeDispatch]

theorem pinsBeforeDispatch_rwb (p : Pins) : pin (pinsBeforeDispatch p) .rwb = true := by
  simp [pinsBeforeDispatch]

theorem pinsBeforeDispatch_passed (p : Pins) (k : Nat) (h : k < 6 ∨ 32 ≤ k) :
    (pinsBeforeDispatch p).getLsbD k = p.getLsbD k := by
  rw [pinsBeforeDispatch, beginRead_eq_drive, getLsbD_drive, if_neg (by simp [Pin.bit]; omega), getLsbD_drive,
    if_neg (by simp [Pin.bit]; omega)]

theorem tickEdge_returned {c c' : Core} {p p' : Pins} (h : tickEdge c p = .returned c' p') : TickFacts c p c' p' := by
  have hb := c.beforeDispatch_facts p
  unfold tickEdge at h
  generalize c.beforeDispatch p = d at h hb
  simp only at h
  split at h
  · next d' q hd =>
    cases h
    obtain ⟨program, hprog, hlt, h7, hf⟩ := dispatch_ok hd
    have hstep : (d'.ir.step + 1#3).toNat = d.ir.step.toNat + 1 := by
      rw [hf.ir, BitVec.toNat_add]
      have : d.ir.step.toNat + 1 < 8 := by omega
      simpa using Nat.mod_eq_of_lt this
    refine ⟨hf.x.trans hb.x, hf.y.trans hb.y, hf.fault.trans hb.fault,
      hf.reserved.trans (hb.flags .r (by decide)), by simp [hf.irqPip, hb.irqPip], by simp [hf.nmiPip, hb.nmiPip], rfl,
      fun k hk => (hf.passed k hk).trans (pinsBeforeDispatch_passed p k hk), fun hs => ?_, program, ?_⟩
    · by_cases hl : d.ir.step.toNat + 1 = program.length
      · have := hf.fetch (by simpa using hl)
        exact ⟨this.2.1.trans (pinsBeforeDispatch_rwb p), this.2.2⟩
      · have := hf.quiet (by simpa using hl)
        rw [pinsBeforeDispatch_sync] at this
        rw [this] at hs
        cases hs
    · refine ⟨by simpa [hf.ir] using hprog, by simp [hstep], by simp [hstep]; omega, h7, ?_⟩
      simp only [Core.afterDispatch_ir, hstep]
      by_cases hl : d.ir.step.toNat + 1 = program.length
      · simp [(hf.fetch (by simpa using hl)).1, hl]
      · simp [(hf.quiet (by simpa using hl)).trans (pinsBeforeDispatch_sync p), hl]
  · cases h

/-- A fault marks the core it leaves, and the core raises it again whatever it is given (`60_exceptions.md` R212). -/
theorem tickEdge_raised {c c' : Core} {p : Pins} {f : EngineFault} (h : tickEdge c p = .raised f c') :
    c' = { c.beforeDispatch p with fault := some f } := by
  unfold tickEdge at h
  simp only at h
  split at h
  · cases h
  · cases h
    rfl

/-- The two calls of a system cycle make exactly one engine tick: the PHI2-low call only refreshes the snapshot's PHI2. -/
theorem State.cycle_of_live {s : State} (h : s.core.fault = none) :
    s.cycle =
      match tickEdge { s.core with pinsPrev := drive s.core.pinsPrev .phi2 false }
          (presentInputs (drive s.pins .phi2 false) s.nextInputs) with
      | .raised f _ => .fault (.engine f)
      | .returned c p => ({ s with core := c, pins := p, inputs := s.inputs.tail } : State).serve := by
  have hlow : tick s.core (drive s.pins .phi2 false) =
      .returned { s.core with pinsPrev := drive s.core.pinsPrev .phi2 false } (drive s.pins .phi2 false) := by
    simp [tick, h, risingEdge]
  have hhigh : tick { s.core with pinsPrev := drive s.core.pinsPrev .phi2 false }
      (presentInputs (drive s.pins .phi2 false) s.nextInputs) =
      tickEdge { s.core with pinsPrev := drive s.core.pinsPrev .phi2 false }
        (presentInputs (drive s.pins .phi2 false) s.nextInputs) := by
    unfold tick
    rw [h]
    simp [risingEdge, pin_presentInputs]
  rw [State.cycle, hlow]
  simp only [hhigh] <;>
    cases tickEdge { s.core with pinsPrev := drive s.core.pinsPrev .phi2 false }
      (presentInputs (drive s.pins .phi2 false) s.nextInputs) <;> rfl

/-- Everything a system cycle that answered has done. -/
structure CycleFacts (s t : State) : Prop where
  live : s.core.fault = none
  x : t.core.x = s.core.x
  y : t.core.y = s.core.y
  fault : t.core.fault = none
  reserved : flag t.core.p .r = flag s.core.p .r
  map : t.map = s.map
  inputs : t.inputs = s.inputs.tail
  inStep : t.InStep
  starts : pin t.pins .sync = true → t.StartsAt t.core.pc
  wf : s.mem.wf = true → t.mem.wf = true
  rom : ∀ b, ¬ s.Writable b → t.readByte b = s.readByte b

theorem State.cycle_next {s t : State} (h : s.cycle = .next t) : CycleFacts s t := by
  cases hl : s.core.fault with
  | some f => simp [State.cycle, tick, hl] at h
  | none =>
    rw [State.cycle_of_live hl] at h
    split at h
    · cases h
    · next c p htick =>
      have hf := tickEdge_returned htick
      obtain ⟨program, hprog, -, hle, -, hiff⟩ := hf.step
      have hpl : programLength c.ir.opcode = program.length := by simp [programLength, hprog]
      have hpos : 0 < program.length := by have := hf.step; omega
      unfold State.serve at h
      by_cases hw : pin p .rwb = true
      · simp only [hw, if_true] at h
        obtain ⟨v, hv, h⟩ := State.readThen_next h
        cases h
        refine ⟨hl, hf.x, hf.y, hf.fault.trans hl, hf.reserved, rfl, rfl, ?_, fun hs => ?_, id, fun _ _ => rfl⟩
        · simp [State.InStep, hpl, hle, hiff, hpos]
        · simp only [pin_setData] at hs
          obtain ⟨hrw, haddr⟩ := hf.fetch hs
          refine ⟨rfl, by simpa using hs, by simpa using hrw, by simpa using haddr, ?_⟩
          rw [getData_setData, ← haddr]
          exact hv
      · simp only [Bool.not_eq_true] at hw
        simp only [hw, Bool.false_eq_true, if_false] at h
        cases h
        have hns : pin p .sync = false := by
          cases hs : pin p .sync with
          | false => rfl
          | true =>
            have := (hf.fetch hs).1
            rw [hw] at this
            cases this
        refine ⟨hl, by simpa using hf.x, by simpa using hf.y, by simpa using hf.fault.trans hl, by simpa using hf.reserved,
          by simp, by simp, ?_, fun hs => ?_, fun hm => State.writeByte_wf _ _ hm, fun b hb => ?_⟩
        · simp only [State.InStep, State.writeByte_core, State.writeByte_pins, hpl]
          exact ⟨hpos, hle, hiff⟩
        · simp [hns] at hs
        · by_cases hab : b = getAddress p
          · subst hab
            rw [State.writeByte_dropped _ (by exact hb)]
            rfl
          · exact State.readByte_writeByte_other _ _ hab
end Sys2Proof.Machine
end

