-- ==== Sys2Proof/Tests/Slice0.lean ====
section
/-! SUPPORT. Tests and witnesses. The expected values of the tests are the rows of `95_test_vectors.md` and the words of
`30_encoding.md` R77 and spec/opcode_table.json, none of them this model's own answer. The witnesses show, for each
statement with hypotheses, a concrete input that meets them all. -/

namespace Sys2Proof.Tests

-- One theorem after another: the kernel evaluations below would otherwise start a thread each.
set_option Elab.async false

open Sys2Proof Sys2Proof.Machine

/-! ### Helpers -/

/-- A single-instruction vector's start (`95_test_vectors.md`, section 0): an instruction boundary at `pc`. -/
def boundaryAt (pc : Word) (bytes : List Byte) (a p sp : Byte) (cells : List (Word × Byte)) : State :=
  { core := { Core.powerUp sp 0x0000#16 with a := a, p := p, pc := pc, ir := ⟨0x00#8, 7#3⟩, pinsPrev := 0x20#64 },
    pins := setData (beginFetch (beginRead 0#64) pc) (bytes.headD 0x00#8),
    mem := Memory.load (cells.foldl (fun m c => m.write c.1.toNat c.2) []) pc bytes,
    map := Config.referenceMap, inputs := [] }

/-- The same at 0x8000, where every vector starts. -/
def boundary (bytes : List Byte) (a p sp : Byte) (cells : List (Word × Byte)) : State :=
  boundaryAt 0x8000#16 bytes a p sp cells

/-- An instruction placed at 0x8000. -/
def startOf (i : Instr) (p : Byte) (cells : List (Word × Byte)) : State := boundary (encode i) 0x55#8 p 0xFD#8 cells

/-- The outcome is a next state of which `f` holds. -/
def nextAnd (r : Result) (f : State → Bool) : Bool :=
  match r with
  | .next t => f t
  | _ => false

/-- The outcome is this fault. -/
def faultIs (r : Result) (g : Fault) : Bool :=
  match r with
  | .fault f => decide (f = g)
  | _ => false

/-- The call returned a core and a vector of which `f` holds. -/
def returnedAnd (r : TickResult) (f : Core → Pins → Bool) : Bool :=
  match r with
  | .returned c p => f c p
  | _ => false

theorem next_of_nextAnd {r : Result} {f : State → Bool} (h : nextAnd r f = true) : ∃ t, r = .next t ∧ f t = true := by
  cases r with
  | next t => exact ⟨t, rfl, h⟩
  | fault f => cases h
  | refused q => cases h

theorem fault_of_faultIs {r : Result} {g : Fault} (h : faultIs r g = true) : r = .fault g := by
  cases r with
  | next t => cases h
  | fault f => exact congrArg _ (of_decide_eq_true h)
  | refused q => cases h

theorem returned_of_returnedAnd {r : TickResult} {f : Core → Pins → Bool} (h : returnedAnd r f = true) :
    ∃ c p, r = .returned c p ∧ f c p = true := by
  cases r with
  | returned c p => exact ⟨c, p, rfl, h⟩
  | raised f c => cases h

/-- `State.RunsWhole`, computed. -/
def runsWhole (s : State) (i : Instr) : Bool :=
  decide (s.core.fault = none ∧ s.StartsAt s.core.pc ∧ s.resbHigh (ticks i) = true ∧ s.pendingAtSync = 0#3) &&
    match decode (s.bytesAt 3 s.core.pc) with
    | .ok (j, _) => decide (j = i)
    | .error _ => false

theorem runsWhole_spec {s : State} {i : Instr} (h : runsWhole s i = true) : s.RunsWhole i := by
  simp only [runsWhole, Bool.and_eq_true, decide_eq_true_eq] at h
  obtain ⟨⟨hf, hs, hr, hp⟩, hd⟩ := h
  refine ⟨hf, hs, ?_, hr, hp⟩
  split at hd
  · rename_i j rest hj
    exact ⟨rest, by rw [hj, of_decide_eq_true hd]⟩
  · cases hd

/-- A vector of `95_test_vectors.md`, section 3.1: the step's result, the bytes it leaves and its bus cycles. -/
def vectorOk (s : State) (a p : Byte) (pc : Word) (sp : Byte) (cells : List (Word × Byte)) (bus : List BusCycle) : Bool :=
  nextAnd (step s) fun t =>
    decide (t.core.a = a ∧ t.core.p = p ∧ t.core.pc = pc ∧ t.core.s = sp) &&
      cells.all (fun c => decide (t.readByte c.1 = some c.2)) && decide (s.trace bus.length = bus)

/-- A read cycle of a vector's bus trace. -/
def r (a : Word) (d : Byte) : BusCycle := ⟨a, true, d, false⟩

/-- A write cycle. -/
def w (a : Word) (d : Byte) : BusCycle := ⟨a, false, d, false⟩

/-- A fetch cycle. -/
def f (a : Word) (d : Byte) : BusCycle := ⟨a, true, d, true⟩

/-! ### WellFormed -/

/-- An admitted instruction is well formed; one without a micro-program is not (`30_encoding.md` R77, R79). -/
theorem test_wellFormed_instr : (Instr.ldaImm 0x00#8).WellFormed ∧ ¬ Instr.nop_i_EA.WellFormed ∧ ¬ Instr.rti_s_40.WellFormed := by
  decide

/-- Section 1.8: the 32 KB RAM and ROM map is accepted. -/
theorem test_wellFormed_map : checkMap Config.referenceMap = none := by decide

/-- Section 1.8: lowering the ROM's base onto RAM's top byte is refused with the overlap error. -/
theorem test_map_overlap : checkMap [⟨0x0000, 0x7FFF, .ram⟩, ⟨0x7FFF, 0xFFFF, .rom⟩] = some .overlap := by decide

/-- A region past 0xFFFF is refused with the other error (`20_memory.md` R56). -/
theorem test_map_tooLarge : checkMap [⟨0x0000, 0x7FFF, .ram⟩, ⟨0x8000, 0x10000, .rom⟩] = some .tooLarge := by decide

/-- Memory not in canonical form is told from memory that is. -/
theorem test_memory_wf :
    Memory.wf [(1, 0x02#8), (65535, 0xFF#8)] = true ∧ Memory.wf [(1, 0x00#8)] = false ∧
      Memory.wf [(2, 0x01#8), (1, 0x01#8)] = false ∧ Memory.wf [(65536, 0x01#8)] = false := by decide

/-! ### Decoding: every opcode value, its word written out from spec/opcode_table.json -/

/-- The bytes decode to the instruction, and nothing is left over. -/
def reads (bytes : List Byte) (i : Instr) : Bool :=
  match decode bytes with
  | .ok (j, rest) => decide (j = i) && rest.isEmpty
  | .error _ => false

/-- Row 0x of the opcode map (`30_encoding.md` R77, R83). -/
theorem test_decode_row_0 :
    (reads [0x00#8] .brk &&
      reads [0x01#8] .ora_ind_zp_x_01 &&
      reads [0x02#8] .nop_2_02 &&
      reads [0x03#8] .nop_03 &&
      reads [0x04#8] .tsb_zp_04 &&
      reads [0x05#8] .ora_zp_05 &&
      reads [0x06#8] .asl_zp_06 &&
      reads [0x07#8] .rmb0_zp_07 &&
      reads [0x08#8] .php_s_08 &&
      reads [0x09#8, 0xA7#8] (.oraImm 0xA7#8) &&
      reads [0x0A#8] .aslAcc &&
      reads [0x0B#8] .nop_0B &&
      reads [0x0C#8] .tsb_a_0C &&
      reads [0x0D#8, 0x34#8, 0xE2#8] (.oraAbs 0xE234#16) &&
      reads [0x0E#8, 0x34#8, 0xE2#8] (.aslAbs 0xE234#16) &&
      reads [0x0F#8] .bbr0_r_0F) = true := by decide +kernel

/-- Row 1x of the opcode map (`30_encoding.md` R77, R83). -/
theorem test_decode_row_1 :
    (reads [0x10#8] .bpl_r_10 &&
      reads [0x11#8] .ora_ind_zp_y_11 &&
      reads [0x12#8] .ora_ind_zp_12 &&
      reads [0x13#8] .nop_13 &&
      reads [0x14#8] .trb_zp_14 &&
      reads [0x15#8] .ora_zp_x_15 &&
      reads [0x16#8] .asl_zp_x_16 &&
      reads [0x17#8] .rmb1_zp_17 &&
      reads [0x18#8] .clc &&
      reads [0x19#8] .ora_a_y_19 &&
      reads [0x1A#8] .inc_a_1A &&
      reads [0x1B#8] .nop_1B &&
      reads [0x1C#8] .trb_a_1C &&
      reads [0x1D#8] .ora_a_x_1D &&
      reads [0x1E#8] .asl_a_x_1E &&
      reads [0x1F#8] .bbr1_r_1F) = true := by decide +kernel

/-- Row 2x of the opcode map (`30_encoding.md` R77, R83). -/
theorem test_decode_row_2 :
    (reads [0x20#8, 0x34#8, 0xE2#8] (.jsr 0xE234#16) &&
      reads [0x21#8] .and_ind_zp_x_21 &&
      reads [0x22#8] .nop_2_22 &&
      reads [0x23#8] .nop_23 &&
      reads [0x24#8] .bit_zp_24 &&
      reads [0x25#8] .and_zp_25 &&
      reads [0x26#8] .rol_zp_26 &&
      reads [0x27#8] .rmb2_zp_27 &&
      reads [0x28#8] .plp_s_28 &&
      reads [0x29#8, 0xA7#8] (.andImm 0xA7#8) &&
      reads [0x2A#8] .rolAcc &&
      reads [0x2B#8] .nop_2B &&
      reads [0x2C#8] .bit_a_2C &&
      reads [0x2D#8, 0x34#8, 0xE2#8] (.andAbs 0xE234#16) &&
      reads [0x2E#8, 0x34#8, 0xE2#8] (.rolAbs 0xE234#16) &&
      reads [0x2F#8] .bbr2_r_2F) = true := by decide +kernel

/-- Row 3x of the opcode map (`30_encoding.md` R77, R83). -/
theorem test_decode_row_3 :
    (reads [0x30#8] .bmi_r_30 &&
      reads [0x31#8] .and_ind_zp_y_31 &&
      reads [0x32#8] .and_ind_zp_32 &&
      reads [0x33#8] .nop_33 &&
      reads [0x34#8] .bit_zp_x_34 &&
      reads [0x35#8] .and_zp_x_35 &&
      reads [0x36#8] .rol_zp_x_36 &&
      reads [0x37#8] .rmb3_zp_37 &&
      reads [0x38#8] .sec &&
      reads [0x39#8] .and_a_y_39 &&
      reads [0x3A#8] .dec_a_3A &&
      reads [0x3B#8] .nop_3B &&
      reads [0x3C#8] .bit_a_x_3C &&
      reads [0x3D#8] .and_a_x_3D &&
      reads [0x3E#8] .rol_a_x_3E &&
      reads [0x3F#8] .bbr3_r_3F) = true := by decide +kernel

/-- Row 4x of the opcode map (`30_encoding.md` R77, R83). -/
theorem test_decode_row_4 :
    (reads [0x40#8] .rti_s_40 &&
      reads [0x41#8] .eor_ind_zp_x_41 &&
      reads [0x42#8] .nop_2_42 &&
      reads [0x43#8] .nop_43 &&
      reads [0x44#8] .nop_zp_44 &&
      reads [0x45#8] .eor_zp_45 &&
      reads [0x46#8] .lsr_zp_46 &&
      reads [0x47#8] .rmb4_zp_47 &&
      reads [0x48#8] .pha_s_48 &&
      reads [0x49#8, 0xA7#8] (.eorImm 0xA7#8) &&
      reads [0x4A#8] .lsrAcc &&
      reads [0x4B#8] .nop_4B &&
      reads [0x4C#8, 0x34#8, 0xE2#8] (.jmp 0xE234#16) &&
      reads [0x4D#8, 0x34#8, 0xE2#8] (.eorAbs 0xE234#16) &&
      reads [0x4E#8, 0x34#8, 0xE2#8] (.lsrAbs 0xE234#16) &&
      reads [0x4F#8] .bbr4_r_4F) = true := by decide +kernel

/-- Row 5x of the opcode map (`30_encoding.md` R77, R83). -/
theorem test_decode_row_5 :
    (reads [0x50#8] .bvc_r_50 &&
      reads [0x51#8] .eor_ind_zp_y_51 &&
      reads [0x52#8] .eor_ind_zp_52 &&
      reads [0x53#8] .nop_53 &&
      reads [0x54#8] .nop_zp_x_54 &&
      reads [0x55#8] .eor_zp_x_55 &&
      reads [0x56#8] .lsr_zp_x_56 &&
      reads [0x57#8] .rmb5_zp_57 &&
      reads [0x58#8] .cli &&
      reads [0x59#8] .eor_a_y_59 &&
      reads [0x5A#8] .phy_s_5A &&
      reads [0x5B#8] .nop_5B &&
      reads [0x5C#8] .nop_a_5C &&
      reads [0x5D#8] .eor_a_x_5D &&
      reads [0x5E#8] .lsr_a_x_5E &&
      reads [0x5F#8] .bbr5_r_5F) = true := by decide +kernel

/-- Row 6x of the opcode map (`30_encoding.md` R77, R83). -/
theorem test_decode_row_6 :
    (reads [0x60#8] .rts_s_60 &&
      reads [0x61#8] .adc_ind_zp_x_61 &&
      reads [0x62#8] .nop_2_62 &&
      reads [0x63#8] .nop_63 &&
      reads [0x64#8] .stz_zp_64 &&
      reads [0x65#8] .adc_zp_65 &&
      reads [0x66#8] .ror_zp_66 &&
      reads [0x67#8] .rmb6_zp_67 &&
      reads [0x68#8] .pla_s_68 &&
      reads [0x69#8, 0xA7#8] (.adcImm 0xA7#8) &&
      reads [0x6A#8] .rorAcc &&
      reads [0x6B#8] .nop_6B &&
      reads [0x6C#8] .jmp_ind_a_6C &&
      reads [0x6D#8, 0x34#8, 0xE2#8] (.adcAbs 0xE234#16) &&
      reads [0x6E#8, 0x34#8, 0xE2#8] (.rorAbs 0xE234#16) &&
      reads [0x6F#8] .bbr6_r_6F) = true := by decide +kernel

/-- Row 7x of the opcode map (`30_encoding.md` R77, R83). -/
theorem test_decode_row_7 :
    (reads [0x70#8] .bvs_r_70 &&
      reads [0x71#8] .adc_ind_zp_y_71 &&
      reads [0x72#8] .adc_ind_zp_72 &&
      reads [0x73#8] .nop_73 &&
      reads [0x74#8] .stz_zp_x_74 &&
      reads [0x75#8] .adc_zp_x_75 &&
      reads [0x76#8] .ror_zp_x_76 &&
      reads [0x77#8] .rmb7_zp_77 &&
      reads [0x78#8] .sei &&
      reads [0x79#8] .adc_a_y_79 &&
      reads [0x7A#8] .ply_s_7A &&
      reads [0x7B#8] .nop_7B &&
      reads [0x7C#8] .jmp_ind_a_x_7C &&
      reads [0x7D#8] .adc_a_x_7D &&
      reads [0x7E#8] .ror_a_x_7E &&
      reads [0x7F#8] .bbr7_r_7F) = true := by decide +kernel

/-- Row 8x of the opcode map (`30_encoding.md` R77, R83). -/
theorem test_decode_row_8 :
    (reads [0x80#8] .bra_r_80 &&
      reads [0x81#8] .sta_ind_zp_x_81 &&
      reads [0x82#8] .nop_2_82 &&
      reads [0x83#8] .nop_83 &&
      reads [0x84#8] .sty_zp_84 &&
      reads [0x85#8] .sta_zp_85 &&
      reads [0x86#8] .stx_zp_86 &&
      reads [0x87#8] .smb0_zp_87 &&
      reads [0x88#8] .dey_i_88 &&
      reads [0x89#8] .bit_89 &&
      reads [0x8A#8] .txa_i_8A &&
      reads [0x8B#8] .nop_8B &&
      reads [0x8C#8] .sty_a_8C &&
      reads [0x8D#8, 0x34#8, 0xE2#8] (.sta 0xE234#16) &&
      reads [0x8E#8] .stx_a_8E &&
      reads [0x8F#8] .bbs0_r_8F) = true := by decide +kernel

/-- Row 9x of the opcode map (`30_encoding.md` R77, R83). -/
theorem test_decode_row_9 :
    (reads [0x90#8] .bcc_r_90 &&
      reads [0x91#8] .sta_ind_zp_y_91 &&
      reads [0x92#8] .sta_ind_zp_92 &&
      reads [0x93#8] .nop_93 &&
      reads [0x94#8] .sty_zp_x_94 &&
      reads [0x95#8] .sta_zp_x_95 &&
      reads [0x96#8] .stx_zp_y_96 &&
      reads [0x97#8] .smb1_zp_97 &&
      reads [0x98#8] .tya_i_98 &&
      reads [0x99#8] .sta_a_y_99 &&
      reads [0x9A#8] .txs_i_9A &&
      reads [0x9B#8] .nop_9B &&
      reads [0x9C#8] .stz_a_9C &&
      reads [0x9D#8] .sta_a_x_9D &&
      reads [0x9E#8] .stz_a_x_9E &&
      reads [0x9F#8] .bbs1_r_9F) = true := by decide +kernel

/-- Row Ax of the opcode map (`30_encoding.md` R77, R83). -/
theorem test_decode_row_A :
    (reads [0xA0#8] .ldy_A0 &&
      reads [0xA1#8] .lda_ind_zp_x_A1 &&
      reads [0xA2#8] .ldx_A2 &&
      reads [0xA3#8] .nop_A3 &&
      reads [0xA4#8] .ldy_zp_A4 &&
      reads [0xA5#8] .lda_zp_A5 &&
      reads [0xA6#8] .ldx_zp_A6 &&
      reads [0xA7#8] .smb2_zp_A7 &&
      reads [0xA8#8] .tay_i_A8 &&
      reads [0xA9#8, 0xA7#8] (.ldaImm 0xA7#8) &&
      reads [0xAA#8] .tax_i_AA &&
      reads [0xAB#8] .nop_AB &&
      reads [0xAC#8] .ldy_a_AC &&
      reads [0xAD#8, 0x34#8, 0xE2#8] (.ldaAbs 0xE234#16) &&
      reads [0xAE#8] .ldx_a_AE &&
      reads [0xAF#8] .bbs2_r_AF) = true := by decide +kernel

/-- Row Bx of the opcode map (`30_encoding.md` R77, R83). -/
theorem test_decode_row_B :
    (reads [0xB0#8] .bcs_r_B0 &&
      reads [0xB1#8] .lda_ind_zp_y_B1 &&
      reads [0xB2#8] .lda_ind_zp_B2 &&
      reads [0xB3#8] .nop_B3 &&
      reads [0xB4#8] .ldy_zp_x_B4 &&
      reads [0xB5#8] .lda_zp_x_B5 &&
      reads [0xB6#8] .ldx_zp_y_B6 &&
      reads [0xB7#8] .smb3_zp_B7 &&
      reads [0xB8#8] .clv &&
      reads [0xB9#8] .lda_a_y_B9 &&
      reads [0xBA#8] .tsx_i_BA &&
      reads [0xBB#8] .nop_BB &&
      reads [0xBC#8] .ldy_a_x_BC &&
      reads [0xBD#8] .lda_a_x_BD &&
      reads [0xBE#8] .ldx_a_y_BE &&
      reads [0xBF#8] .bbs3_r_BF) = true := by decide +kernel

/-- Row Cx of the opcode map (`30_encoding.md` R77, R83). -/
theorem test_decode_row_C :
    (reads [0xC0#8] .cpy_C0 &&
      reads [0xC1#8] .cmp_ind_zp_x_C1 &&
      reads [0xC2#8] .nop_2_C2 &&
      reads [0xC3#8] .nop_C3 &&
      reads [0xC4#8] .cpy_zp_C4 &&
      reads [0xC5#8] .cmp_zp_C5 &&
      reads [0xC6#8] .dec_zp_C6 &&
      reads [0xC7#8] .smb4_zp_C7 &&
      reads [0xC8#8] .iny_i_C8 &&
      reads [0xC9#8, 0xA7#8] (.cmpImm 0xA7#8) &&
      reads [0xCA#8] .dex_i_CA &&
      reads [0xCB#8] .wai_i_CB &&
      reads [0xCC#8] .cpy_a_CC &&
      reads [0xCD#8, 0x34#8, 0xE2#8] (.cmpAbs 0xE234#16) &&
      reads [0xCE#8] .dec_a_CE &&
      reads [0xCF#8] .bbs4_r_CF) = true := by decide +kernel

/-- Row Dx of the opcode map (`30_encoding.md` R77, R83). -/
theorem test_decode_row_D :
    (reads [0xD0#8] .bne_r_D0 &&
      reads [0xD1#8] .cmp_ind_zp_y_D1 &&
      reads [0xD2#8] .cmp_ind_zp_D2 &&
      reads [0xD3#8] .nop_D3 &&
      reads [0xD4#8] .nop_zp_x_D4 &&
      reads [0xD5#8] .cmp_zp_x_D5 &&
      reads [0xD6#8] .dec_zp_x_D6 &&
      reads [0xD7#8] .smb5_zp_D7 &&
      reads [0xD8#8] .cld &&
      reads [0xD9#8] .cmp_a_y_D9 &&
      reads [0xDA#8] .phx_s_DA &&
      reads [0xDB#8] .stp_i_DB &&
      reads [0xDC#8] .nop_a_DC &&
      reads [0xDD#8] .cmp_a_x_DD &&
      reads [0xDE#8] .dec_a_x_DE &&
      reads [0xDF#8] .bbs5_r_DF) = true := by decide +kernel

/-- Row Ex of the opcode map (`30_encoding.md` R77, R83). -/
theorem test_decode_row_E :
    (reads [0xE0#8] .cpx_E0 &&
      reads [0xE1#8] .sbc_ind_zp_x_E1 &&
      reads [0xE2#8] .nop_2_E2 &&
      reads [0xE3#8] .nop_E3 &&
      reads [0xE4#8] .cpx_zp_E4 &&
      reads [0xE5#8] .sbc_zp_E5 &&
      reads [0xE6#8] .inc_zp_E6 &&
      reads [0xE7#8] .smb6_zp_E7 &&
      reads [0xE8#8] .inx_i_E8 &&
      reads [0xE9#8, 0xA7#8] (.sbcImm 0xA7#8) &&
      reads [0xEA#8] .nop_i_EA &&
      reads [0xEB#8] .nop_EB &&
      reads [0xEC#8] .cpx_a_EC &&
      reads [0xED#8, 0x34#8, 0xE2#8] (.sbcAbs 0xE234#16) &&
      reads [0xEE#8] .inc_a_EE &&
      reads [0xEF#8] .bbs6_r_EF) = true := by decide +kernel

/-- Row Fx of the opcode map (`30_encoding.md` R77, R83). -/
theorem test_decode_row_F :
    (reads [0xF0#8] .beq_r_F0 &&
      reads [0xF1#8] .sbc_ind_zp_y_F1 &&
      reads [0xF2#8] .sbc_ind_zp_F2 &&
      reads [0xF3#8] .nop_F3 &&
      reads [0xF4#8] .nop_zp_x_F4 &&
      reads [0xF5#8] .sbc_zp_x_F5 &&
      reads [0xF6#8] .inc_zp_x_F6 &&
      reads [0xF7#8] .smb7_zp_F7 &&
      reads [0xF8#8] .sed &&
      reads [0xF9#8] .sbc_a_y_F9 &&
      reads [0xFA#8] .plx_s_FA &&
      reads [0xFB#8] .nop_FB &&
      reads [0xFC#8] .nop_a_FC &&
      reads [0xFD#8] .sbc_a_x_FD &&
      reads [0xFE#8] .inc_a_x_FE &&
      reads [0xFF#8] .bbs7_r_FF) = true := by decide +kernel

/-- A string that ends inside an instruction is refused (`30_encoding.md` R73, R74). -/
theorem test_decode_short : reads [] .brk = false ∧ reads [0xA9#8] (.ldaImm 0x00#8) = false ∧
    reads [0xAD#8, 0x00#8] (.ldaAbs 0x0000#16) = false := by decide

/-- The table's bit numbering: the opcode is bits 7:0, the operand bytes follow, low byte first. -/
theorem test_decodeTableWord :
    decodeTableWord 8 0x38 = some .sec ∧ decodeTableWord 16 0xA7A9 = some (.ldaImm 0xA7#8) ∧
      decodeTableWord 24 0xE2348D = some (.sta 0xE234#16) ∧ decodeTableWord 8 0xAD = some (.ldaAbs 0x0000#16) := by
  decide

/-- `withFetchWord` puts the instruction where the next step fetches. -/
theorem test_withFetchWord :
    (State.reset.withFetchWord 16 0xA7A9).nextInstr = some (.ldaImm 0xA7#8) ∧
      (State.reset.withFetchWord 24 0x123420).nextInstr = some (.jsr 0x1234#16) ∧
      (State.reset.withFetchWord 8 0xEA).nextInstr = some .nop_i_EA := by
  decide +kernel

/-! ### Helpers of the spec -/

/-- Section 2.1, every row. -/
theorem test_pinCodec :
    setAddress 0x0#64 0xFFFF#16 = 0x7FFF80#64 ∧
      setAddress 0x0#64 0x1#16 = 0x80#64 ∧
      setAddress 0x0#64 0x8000#16 = 0x400000#64 ∧
      setAddress 0xFFFFFFFFFF#64 0x0#16 = 0xFFFF80007F#64 ∧
      setAddress 0xFFFFFFFFFF#64 0x1234#16 = 0xFFFF891A7F#64 ∧
      getAddress 0xFFFFFFFFFF#64 = 0xFFFF#16 ∧
      getAddress 0x7F#64 = 0x0#16 ∧
      getAddress 0x91A00#64 = 0x1234#16 ∧
      setData 0x0#64 0xFF#8 = 0x7F800000#64 ∧
      setData 0x0#64 0x1#8 = 0x800000#64 ∧
      setData 0xFFFFFFFFFF#64 0x0#8 = 0xFF807FFFFF#64 ∧
      setData 0xFFFFFFFFFF#64 0xA5#8 = 0xFFD2FFFFFF#64 ∧
      getData 0xFFFFFFFFFF#64 = 0xFF#8 ∧
      getData 0x807FFFFF#64 = 0x0#8 ∧
      getData 0x52800000#64 = 0xA5#8 ∧
      setAddressAndData 0x0#64 0x1234#16 0x56#8 = 0x2B091A00#64 ∧
      setAddressAndData 0xFFFFFFFFFF#64 0x0#16 0x0#8 = 0xFF8000007F#64 ∧
      enable 0x0#64 Pin.rwb.mask = 0x80000000#64 ∧
      disable 0xFFFFFFFFFF#64 Pin.rwb.mask = 0xFF7FFFFFFF#64 ∧
      beginRead 0x0#64 = 0x80000000#64 ∧
      beginWrite 0xFFFFFFFFFF#64 = 0xFF7FFFFFFF#64 ∧
      beginFetch 0x0#64 0x8000#16 = 0x400040#64 ∧
      beginFetch 0xFFFFFFFFBF#64 0x0#16 = 0xFFFF80007F#64 ∧
      setAddress 0xABCD000000000000#64 0xFFFF#16 = 0xABCD0000007FFF80#64 ∧
      setData 0xABCD00FFFFFFFFFF#64 0x0#8 = 0xABCD00FF807FFFFF#64 := by decide +kernel

/-- Section 2.2, every row. -/
theorem test_setNz :
    setNz 0x00#8 0x00#8 = 0x02#8 ∧
      setNz 0x01#8 0x00#8 = 0x00#8 ∧
      setNz 0x7F#8 0x00#8 = 0x00#8 ∧
      setNz 0x80#8 0x00#8 = 0x80#8 ∧
      setNz 0xFF#8 0x00#8 = 0x80#8 ∧
      setNz 0x00#8 0xFF#8 = 0x7F#8 ∧
      setNz 0x01#8 0xFF#8 = 0x7D#8 ∧
      setNz 0x7F#8 0xFF#8 = 0x7D#8 ∧
      setNz 0x80#8 0xFF#8 = 0xFD#8 ∧
      setNz 0xFF#8 0xFF#8 = 0xFD#8 ∧
      setNz 0x00#8 0x16#8 = 0x16#8 ∧
      setNz 0x01#8 0x16#8 = 0x14#8 ∧
      setNz 0x7F#8 0x16#8 = 0x14#8 ∧
      setNz 0x80#8 0x16#8 = 0x94#8 ∧
      setNz 0xFF#8 0x16#8 = 0x94#8 := by decide

/-- Section 2.3, every row. -/
theorem test_compare :
    compareFlags 0x10#8 0x10#8 0x00#8 = 0x03#8 ∧
      compareFlags 0x05#8 0x10#8 0x01#8 = 0x80#8 ∧
      compareFlags 0x00#8 0x00#8 0x00#8 = 0x03#8 ∧
      compareFlags 0x00#8 0x01#8 0x01#8 = 0x80#8 ∧
      compareFlags 0x80#8 0x01#8 0x00#8 = 0x01#8 ∧
      compareFlags 0xFF#8 0x00#8 0x40#8 = 0xC1#8 ∧
      compareFlags 0x00#8 0xFF#8 0x01#8 = 0x00#8 ∧
      compareFlags 0x7F#8 0x80#8 0x00#8 = 0x80#8 ∧
      compareFlags 0x80#8 0x7F#8 0x00#8 = 0x01#8 ∧
      compareFlags 0xFF#8 0xFF#8 0x83#8 = 0x03#8 := by decide

/-- Section 2.4, every row. -/
theorem test_adc :
    adc 0x00#8 0x00#8 0x00#8 = (0x00#8, 0x02#8) ∧
      adc 0x00#8 0x00#8 0x01#8 = (0x01#8, 0x00#8) ∧
      adc 0x7F#8 0x01#8 0x00#8 = (0x80#8, 0xC0#8) ∧
      adc 0x7F#8 0x00#8 0x01#8 = (0x80#8, 0xC0#8) ∧
      adc 0xFF#8 0x01#8 0x00#8 = (0x00#8, 0x03#8) ∧
      adc 0xFF#8 0x00#8 0x01#8 = (0x00#8, 0x03#8) ∧
      adc 0xFF#8 0xFF#8 0x01#8 = (0xFF#8, 0x81#8) ∧
      adc 0x80#8 0x80#8 0x00#8 = (0x00#8, 0x43#8) ∧
      adc 0x80#8 0xFF#8 0x00#8 = (0x7F#8, 0x41#8) ∧
      adc 0x50#8 0x50#8 0x00#8 = (0xA0#8, 0xC0#8) ∧
      adc 0xD0#8 0x90#8 0x00#8 = (0x60#8, 0x41#8) ∧
      adc 0x50#8 0xD0#8 0x00#8 = (0x20#8, 0x01#8) ∧
      adc 0x3F#8 0x40#8 0x01#8 = (0x80#8, 0xC0#8) ∧
      adc 0x7F#8 0x7F#8 0x01#8 = (0xFF#8, 0xC0#8) ∧
      adc 0x01#8 0xFF#8 0x00#8 = (0x00#8, 0x03#8) := by decide +kernel

/-- Section 2.5, every row. -/
theorem test_sbc :
    sbc 0x00#8 0x00#8 0x01#8 = (0x00#8, 0x03#8) ∧
      sbc 0x00#8 0x00#8 0x00#8 = (0xFF#8, 0x80#8) ∧
      sbc 0x00#8 0x01#8 0x01#8 = (0xFF#8, 0x80#8) ∧
      sbc 0x80#8 0x01#8 0x01#8 = (0x7F#8, 0x41#8) ∧
      sbc 0x80#8 0x00#8 0x00#8 = (0x7F#8, 0x41#8) ∧
      sbc 0x7F#8 0xFF#8 0x01#8 = (0x80#8, 0xC0#8) ∧
      sbc 0x7F#8 0xFF#8 0x00#8 = (0x7F#8, 0x00#8) ∧
      sbc 0x10#8 0x10#8 0x01#8 = (0x00#8, 0x03#8) ∧
      sbc 0x10#8 0x10#8 0x00#8 = (0xFF#8, 0x80#8) ∧
      sbc 0x50#8 0xB0#8 0x01#8 = (0xA0#8, 0xC0#8) ∧
      sbc 0x50#8 0xF0#8 0x01#8 = (0x60#8, 0x00#8) ∧
      sbc 0xD0#8 0x70#8 0x01#8 = (0x60#8, 0x41#8) ∧
      sbc 0xFF#8 0xFF#8 0x01#8 = (0x00#8, 0x03#8) ∧
      sbc 0x00#8 0xFF#8 0x01#8 = (0x01#8, 0x00#8) ∧
      sbc 0x01#8 0x02#8 0x01#8 = (0xFF#8, 0x80#8) := by decide +kernel

/-- Section 2.6, every row of its helper. -/
theorem test_asl :
    asl 0x00#8 0x00#8 = (0x00#8, 0x02#8) ∧
      asl 0x00#8 0x01#8 = (0x00#8, 0x02#8) ∧
      asl 0x01#8 0x00#8 = (0x02#8, 0x00#8) ∧
      asl 0x01#8 0x01#8 = (0x02#8, 0x00#8) ∧
      asl 0x80#8 0x00#8 = (0x00#8, 0x03#8) ∧
      asl 0x80#8 0x01#8 = (0x00#8, 0x03#8) ∧
      asl 0x55#8 0x00#8 = (0xAA#8, 0x80#8) ∧
      asl 0xAA#8 0x01#8 = (0x54#8, 0x01#8) ∧
      asl 0xFF#8 0x00#8 = (0xFE#8, 0x81#8) ∧
      asl 0xFF#8 0x01#8 = (0xFE#8, 0x81#8) ∧
      asl 0x40#8 0x00#8 = (0x80#8, 0x80#8) ∧
      asl 0x7F#8 0x01#8 = (0xFE#8, 0x80#8) := by decide +kernel

/-- Section 2.6, every row of its helper. -/
theorem test_lsr :
    lsr 0x00#8 0x00#8 = (0x00#8, 0x02#8) ∧
      lsr 0x00#8 0x01#8 = (0x00#8, 0x02#8) ∧
      lsr 0x01#8 0x00#8 = (0x00#8, 0x03#8) ∧
      lsr 0x01#8 0x01#8 = (0x00#8, 0x03#8) ∧
      lsr 0x80#8 0x00#8 = (0x40#8, 0x00#8) ∧
      lsr 0x80#8 0x01#8 = (0x40#8, 0x00#8) ∧
      lsr 0x55#8 0x00#8 = (0x2A#8, 0x01#8) ∧
      lsr 0xAA#8 0x01#8 = (0x55#8, 0x00#8) ∧
      lsr 0xFF#8 0x00#8 = (0x7F#8, 0x01#8) ∧
      lsr 0xFF#8 0x01#8 = (0x7F#8, 0x01#8) ∧
      lsr 0x40#8 0x00#8 = (0x20#8, 0x00#8) ∧
      lsr 0x7F#8 0x01#8 = (0x3F#8, 0x01#8) := by decide +kernel

/-- Section 2.6, every row of its helper. -/
theorem test_rol :
    rol 0x00#8 0x00#8 = (0x00#8, 0x02#8) ∧
      rol 0x00#8 0x01#8 = (0x01#8, 0x00#8) ∧
      rol 0x01#8 0x00#8 = (0x02#8, 0x00#8) ∧
      rol 0x01#8 0x01#8 = (0x03#8, 0x00#8) ∧
      rol 0x80#8 0x00#8 = (0x00#8, 0x03#8) ∧
      rol 0x80#8 0x01#8 = (0x01#8, 0x01#8) ∧
      rol 0x55#8 0x00#8 = (0xAA#8, 0x80#8) ∧
      rol 0xAA#8 0x01#8 = (0x55#8, 0x01#8) ∧
      rol 0xFF#8 0x00#8 = (0xFE#8, 0x81#8) ∧
      rol 0xFF#8 0x01#8 = (0xFF#8, 0x81#8) ∧
      rol 0x40#8 0x00#8 = (0x80#8, 0x80#8) ∧
      rol 0x7F#8 0x01#8 = (0xFF#8, 0x80#8) := by decide +kernel

/-- Section 2.6, every row of its helper. -/
theorem test_ror :
    ror 0x00#8 0x00#8 = (0x00#8, 0x02#8) ∧
      ror 0x00#8 0x01#8 = (0x80#8, 0x80#8) ∧
      ror 0x01#8 0x00#8 = (0x00#8, 0x03#8) ∧
      ror 0x01#8 0x01#8 = (0x80#8, 0x81#8) ∧
      ror 0x80#8 0x00#8 = (0x40#8, 0x00#8) ∧
      ror 0x80#8 0x01#8 = (0xC0#8, 0x80#8) ∧
      ror 0x55#8 0x00#8 = (0x2A#8, 0x01#8) ∧
      ror 0xAA#8 0x01#8 = (0xD5#8, 0x80#8) ∧
      ror 0xFF#8 0x00#8 = (0x7F#8, 0x01#8) ∧
      ror 0xFF#8 0x01#8 = (0xFF#8, 0x81#8) ∧
      ror 0x40#8 0x00#8 = (0x20#8, 0x00#8) ∧
      ror 0x7F#8 0x01#8 = (0xBF#8, 0x81#8) := by decide +kernel

/-! ### Section 3.1: one theorem per opcode, its rows of the table -/

theorem test_vector_ldaImm :
    (vectorOk (boundary [0xA9#8, 0x00#8] 0x55#8 0x16#8 0xFD#8 []) 0x00#8 0x16#8 0x8002#16 0xFD#8 []
        [r 0x8001#16 0x00#8, f 0x8002#16 0x00#8] &&
      vectorOk (boundary [0xA9#8, 0x80#8] 0x00#8 0x16#8 0xFD#8 []) 0x80#8 0x94#8 0x8002#16 0xFD#8 []
        [r 0x8001#16 0x80#8, f 0x8002#16 0x00#8] &&
      vectorOk (boundary [0xA9#8, 0x7F#8] 0x00#8 0x94#8 0xFD#8 []) 0x7F#8 0x14#8 0x8002#16 0xFD#8 []
        [r 0x8001#16 0x7F#8, f 0x8002#16 0x00#8]) = true := by decide +kernel

theorem test_vector_ldaAbs :
    (vectorOk (boundary [0xAD#8, 0x34#8, 0x12#8] 0x00#8 0x16#8 0xFD#8 [(0x1234#16, 0x80#8)]) 0x80#8 0x94#8 0x8003#16 0xFD#8 []
        [r 0x8001#16 0x34#8, r 0x8002#16 0x12#8, r 0x1234#16 0x80#8, f 0x8003#16 0x00#8] &&
      vectorOk (boundary [0xAD#8, 0x00#8, 0x80#8] 0x00#8 0x16#8 0xFD#8 []) 0xAD#8 0x94#8 0x8003#16 0xFD#8 []
        [r 0x8001#16 0x00#8, r 0x8002#16 0x80#8, r 0x8000#16 0xAD#8, f 0x8003#16 0x00#8]) = true := by decide +kernel

theorem test_vector_sta :
    (vectorOk (boundary [0x8D#8, 0x00#8, 0x02#8] 0x42#8 0x16#8 0xFD#8 []) 0x42#8 0x16#8 0x8003#16 0xFD#8 [(0x0200#16, 0x42#8)]
        [r 0x8001#16 0x00#8, r 0x8002#16 0x02#8, w 0x0200#16 0x42#8, f 0x8003#16 0x00#8] &&
      vectorOk (boundary [0x8D#8, 0xFF#8, 0x01#8] 0x00#8 0x97#8 0xFD#8 [(0x01FF#16, 0xAA#8)]) 0x00#8 0x97#8 0x8003#16 0xFD#8 [(0x01FF#16, 0x00#8)]
        [r 0x8001#16 0xFF#8, r 0x8002#16 0x01#8, w 0x01FF#16 0x00#8, f 0x8003#16 0x00#8]) = true := by decide +kernel

theorem test_vector_oraImm :
    (vectorOk (boundary [0x09#8, 0x0F#8] 0xF0#8 0x16#8 0xFD#8 []) 0xFF#8 0x94#8 0x8002#16 0xFD#8 []
        [r 0x8001#16 0x0F#8, f 0x8002#16 0x00#8] &&
      vectorOk (boundary [0x09#8, 0x00#8] 0x00#8 0x14#8 0xFD#8 []) 0x00#8 0x16#8 0x8002#16 0xFD#8 []
        [r 0x8001#16 0x00#8, f 0x8002#16 0x00#8]) = true := by decide +kernel

theorem test_vector_oraAbs :
    (vectorOk (boundary [0x0D#8, 0x00#8, 0x02#8] 0x01#8 0x16#8 0xFD#8 [(0x0200#16, 0x80#8)]) 0x81#8 0x94#8 0x8003#16 0xFD#8 []
        [r 0x8001#16 0x00#8, r 0x8002#16 0x02#8, r 0x0200#16 0x80#8, f 0x8003#16 0x00#8]) = true := by decide +kernel

theorem test_vector_andImm :
    (vectorOk (boundary [0x29#8, 0x0F#8] 0xF0#8 0x16#8 0xFD#8 []) 0x00#8 0x16#8 0x8002#16 0xFD#8 []
        [r 0x8001#16 0x0F#8, f 0x8002#16 0x00#8] &&
      vectorOk (boundary [0x29#8, 0xFF#8] 0x80#8 0x16#8 0xFD#8 []) 0x80#8 0x94#8 0x8002#16 0xFD#8 []
        [r 0x8001#16 0xFF#8, f 0x8002#16 0x00#8]) = true := by decide +kernel

theorem test_vector_andAbs :
    (vectorOk (boundary [0x2D#8, 0x00#8, 0x02#8] 0xFF#8 0x16#8 0xFD#8 [(0x0200#16, 0x3C#8)]) 0x3C#8 0x14#8 0x8003#16 0xFD#8 []
        [r 0x8001#16 0x00#8, r 0x8002#16 0x02#8, r 0x0200#16 0x3C#8, f 0x8003#16 0x00#8]) = true := by decide +kernel

theorem test_vector_eorImm :
    (vectorOk (boundary [0x49#8, 0xFF#8] 0xFF#8 0x16#8 0xFD#8 []) 0x00#8 0x16#8 0x8002#16 0xFD#8 []
        [r 0x8001#16 0xFF#8, f 0x8002#16 0x00#8] &&
      vectorOk (boundary [0x49#8, 0xFF#8] 0x0F#8 0x16#8 0xFD#8 []) 0xF0#8 0x94#8 0x8002#16 0xFD#8 []
        [r 0x8001#16 0xFF#8, f 0x8002#16 0x00#8]) = true := by decide +kernel

theorem test_vector_eorAbs :
    (vectorOk (boundary [0x4D#8, 0x00#8, 0x02#8] 0xAA#8 0x16#8 0xFD#8 [(0x0200#16, 0x55#8)]) 0xFF#8 0x94#8 0x8003#16 0xFD#8 []
        [r 0x8001#16 0x00#8, r 0x8002#16 0x02#8, r 0x0200#16 0x55#8, f 0x8003#16 0x00#8]) = true := by decide +kernel

theorem test_vector_adcImm :
    (vectorOk (boundary [0x69#8, 0x01#8] 0x7F#8 0x16#8 0xFD#8 []) 0x80#8 0xD4#8 0x8002#16 0xFD#8 []
        [r 0x8001#16 0x01#8, f 0x8002#16 0x00#8] &&
      vectorOk (boundary [0x69#8, 0x01#8] 0xFF#8 0x16#8 0xFD#8 []) 0x00#8 0x17#8 0x8002#16 0xFD#8 []
        [r 0x8001#16 0x01#8, f 0x8002#16 0x00#8] &&
      vectorOk (boundary [0x69#8, 0x00#8] 0x00#8 0x17#8 0xFD#8 []) 0x01#8 0x14#8 0x8002#16 0xFD#8 []
        [r 0x8001#16 0x00#8, f 0x8002#16 0x00#8] &&
      vectorOk (boundary [0x69#8, 0x80#8] 0x80#8 0x16#8 0xFD#8 []) 0x00#8 0x57#8 0x8002#16 0xFD#8 []
        [r 0x8001#16 0x80#8, f 0x8002#16 0x00#8] &&
      vectorOk (boundary [0x69#8, 0xFF#8] 0xFF#8 0x17#8 0xFD#8 []) 0xFF#8 0x95#8 0x8002#16 0xFD#8 []
        [r 0x8001#16 0xFF#8, f 0x8002#16 0x00#8]) = true := by decide +kernel

theorem test_vector_adcAbs :
    (vectorOk (boundary [0x6D#8, 0x00#8, 0x02#8] 0x50#8 0x16#8 0xFD#8 [(0x0200#16, 0x50#8)]) 0xA0#8 0xD4#8 0x8003#16 0xFD#8 []
        [r 0x8001#16 0x00#8, r 0x8002#16 0x02#8, r 0x0200#16 0x50#8, f 0x8003#16 0x00#8] &&
      vectorOk (boundary [0x6D#8, 0x00#8, 0x02#8] 0xD0#8 0x16#8 0xFD#8 [(0x0200#16, 0x90#8)]) 0x60#8 0x55#8 0x8003#16 0xFD#8 []
        [r 0x8001#16 0x00#8, r 0x8002#16 0x02#8, r 0x0200#16 0x90#8, f 0x8003#16 0x00#8]) = true := by decide +kernel

theorem test_vector_sbcImm :
    (vectorOk (boundary [0xE9#8, 0x01#8] 0x00#8 0x17#8 0xFD#8 []) 0xFF#8 0x94#8 0x8002#16 0xFD#8 []
        [r 0x8001#16 0x01#8, f 0x8002#16 0x00#8] &&
      vectorOk (boundary [0xE9#8, 0x00#8] 0x00#8 0x16#8 0xFD#8 []) 0xFF#8 0x94#8 0x8002#16 0xFD#8 []
        [r 0x8001#16 0x00#8, f 0x8002#16 0x00#8] &&
      vectorOk (boundary [0xE9#8, 0x01#8] 0x80#8 0x17#8 0xFD#8 []) 0x7F#8 0x55#8 0x8002#16 0xFD#8 []
        [r 0x8001#16 0x01#8, f 0x8002#16 0x00#8] &&
      vectorOk (boundary [0xE9#8, 0xFF#8] 0x7F#8 0x17#8 0xFD#8 []) 0x80#8 0xD4#8 0x8002#16 0xFD#8 []
        [r 0x8001#16 0xFF#8, f 0x8002#16 0x00#8] &&
      vectorOk (boundary [0xE9#8, 0x10#8] 0x10#8 0x17#8 0xFD#8 []) 0x00#8 0x17#8 0x8002#16 0xFD#8 []
        [r 0x8001#16 0x10#8, f 0x8002#16 0x00#8]) = true := by decide +kernel

theorem test_vector_sbcAbs :
    (vectorOk (boundary [0xED#8, 0x00#8, 0x02#8] 0x50#8 0x17#8 0xFD#8 [(0x0200#16, 0xB0#8)]) 0xA0#8 0xD4#8 0x8003#16 0xFD#8 []
        [r 0x8001#16 0x00#8, r 0x8002#16 0x02#8, r 0x0200#16 0xB0#8, f 0x8003#16 0x00#8] &&
      vectorOk (boundary [0xED#8, 0x00#8, 0x02#8] 0x10#8 0x16#8 0xFD#8 [(0x0200#16, 0x10#8)]) 0xFF#8 0x94#8 0x8003#16 0xFD#8 []
        [r 0x8001#16 0x00#8, r 0x8002#16 0x02#8, r 0x0200#16 0x10#8, f 0x8003#16 0x00#8]) = true := by decide +kernel

theorem test_vector_cmpImm :
    (vectorOk (boundary [0xC9#8, 0x10#8] 0x10#8 0x16#8 0xFD#8 []) 0x10#8 0x17#8 0x8002#16 0xFD#8 []
        [r 0x8001#16 0x10#8, f 0x8002#16 0x00#8] &&
      vectorOk (boundary [0xC9#8, 0x10#8] 0x05#8 0x17#8 0xFD#8 []) 0x05#8 0x94#8 0x8002#16 0xFD#8 []
        [r 0x8001#16 0x10#8, f 0x8002#16 0x00#8] &&
      vectorOk (boundary [0xC9#8, 0x00#8] 0x00#8 0x16#8 0xFD#8 []) 0x00#8 0x17#8 0x8002#16 0xFD#8 []
        [r 0x8001#16 0x00#8, f 0x8002#16 0x00#8] &&
      vectorOk (boundary [0xC9#8, 0x01#8] 0x80#8 0x16#8 0xFD#8 []) 0x80#8 0x15#8 0x8002#16 0xFD#8 []
        [r 0x8001#16 0x01#8, f 0x8002#16 0x00#8] &&
      vectorOk (boundary [0xC9#8, 0x00#8] 0xFF#8 0x56#8 0xFD#8 []) 0xFF#8 0xD5#8 0x8002#16 0xFD#8 []
        [r 0x8001#16 0x00#8, f 0x8002#16 0x00#8]) = true := by decide +kernel

theorem test_vector_cmpAbs :
    (vectorOk (boundary [0xCD#8, 0x00#8, 0x02#8] 0x40#8 0x16#8 0xFD#8 [(0x0200#16, 0x41#8)]) 0x40#8 0x94#8 0x8003#16 0xFD#8 []
        [r 0x8001#16 0x00#8, r 0x8002#16 0x02#8, r 0x0200#16 0x41#8, f 0x8003#16 0x00#8] &&
      vectorOk (boundary [0xCD#8, 0x00#8, 0x02#8] 0x41#8 0x16#8 0xFD#8 [(0x0200#16, 0x40#8)]) 0x41#8 0x15#8 0x8003#16 0xFD#8 []
        [r 0x8001#16 0x00#8, r 0x8002#16 0x02#8, r 0x0200#16 0x40#8, f 0x8003#16 0x00#8]) = true := by decide +kernel

theorem test_vector_aslAcc :
    (vectorOk (boundary [0x0A#8] 0x41#8 0x16#8 0xFD#8 []) 0x82#8 0x94#8 0x8001#16 0xFD#8 []
        [r 0x8001#16 0x00#8, f 0x8001#16 0x00#8] &&
      vectorOk (boundary [0x0A#8] 0x80#8 0x16#8 0xFD#8 []) 0x00#8 0x17#8 0x8001#16 0xFD#8 []
        [r 0x8001#16 0x00#8, f 0x8001#16 0x00#8] &&
      vectorOk (boundary [0x0A#8] 0x00#8 0x17#8 0xFD#8 []) 0x00#8 0x16#8 0x8001#16 0xFD#8 []
        [r 0x8001#16 0x00#8, f 0x8001#16 0x00#8] &&
      vectorOk (boundary [0x0A#8] 0xFF#8 0x16#8 0xFD#8 []) 0xFE#8 0x95#8 0x8001#16 0xFD#8 []
        [r 0x8001#16 0x00#8, f 0x8001#16 0x00#8]) = true := by decide +kernel

theorem test_vector_rolAcc :
    (vectorOk (boundary [0x2A#8] 0x40#8 0x17#8 0xFD#8 []) 0x81#8 0x94#8 0x8001#16 0xFD#8 []
        [r 0x8001#16 0x00#8, f 0x8001#16 0x00#8] &&
      vectorOk (boundary [0x2A#8] 0x80#8 0x16#8 0xFD#8 []) 0x00#8 0x17#8 0x8001#16 0xFD#8 []
        [r 0x8001#16 0x00#8, f 0x8001#16 0x00#8] &&
      vectorOk (boundary [0x2A#8] 0x00#8 0x17#8 0xFD#8 []) 0x01#8 0x14#8 0x8001#16 0xFD#8 []
        [r 0x8001#16 0x00#8, f 0x8001#16 0x00#8]) = true := by decide +kernel

theorem test_vector_lsrAcc :
    (vectorOk (boundary [0x4A#8] 0x82#8 0x96#8 0xFD#8 []) 0x41#8 0x14#8 0x8001#16 0xFD#8 []
        [r 0x8001#16 0x00#8, f 0x8001#16 0x00#8] &&
      vectorOk (boundary [0x4A#8] 0x01#8 0x16#8 0xFD#8 []) 0x00#8 0x17#8 0x8001#16 0xFD#8 []
        [r 0x8001#16 0x00#8, f 0x8001#16 0x00#8] &&
      vectorOk (boundary [0x4A#8] 0xFF#8 0x16#8 0xFD#8 []) 0x7F#8 0x15#8 0x8001#16 0xFD#8 []
        [r 0x8001#16 0x00#8, f 0x8001#16 0x00#8]) = true := by decide +kernel

theorem test_vector_rorAcc :
    (vectorOk (boundary [0x6A#8] 0x02#8 0x17#8 0xFD#8 []) 0x81#8 0x94#8 0x8001#16 0xFD#8 []
        [r 0x8001#16 0x00#8, f 0x8001#16 0x00#8] &&
      vectorOk (boundary [0x6A#8] 0x01#8 0x16#8 0xFD#8 []) 0x00#8 0x17#8 0x8001#16 0xFD#8 []
        [r 0x8001#16 0x00#8, f 0x8001#16 0x00#8] &&
      vectorOk (boundary [0x6A#8] 0x00#8 0x17#8 0xFD#8 []) 0x80#8 0x94#8 0x8001#16 0xFD#8 []
        [r 0x8001#16 0x00#8, f 0x8001#16 0x00#8]) = true := by decide +kernel

theorem test_vector_aslAbs :
    (vectorOk (boundary [0x0E#8, 0x00#8, 0x02#8] 0x33#8 0x16#8 0xFD#8 [(0x0200#16, 0xC0#8)]) 0x33#8 0x95#8 0x8003#16 0xFD#8 [(0x0200#16, 0x80#8)]
        [r 0x8001#16 0x00#8, r 0x8002#16 0x02#8, r 0x0200#16 0xC0#8, w 0x0200#16 0xC0#8, w 0x0200#16 0x80#8, f 0x8003#16 0x00#8] &&
      vectorOk (boundary [0x0E#8, 0x00#8, 0x90#8] 0x33#8 0x16#8 0xFD#8 [(0x9000#16, 0xC0#8)]) 0x33#8 0x95#8 0x8003#16 0xFD#8 [(0x9000#16, 0xC0#8)]
        [r 0x8001#16 0x00#8, r 0x8002#16 0x90#8, r 0x9000#16 0xC0#8, w 0x9000#16 0xC0#8, w 0x9000#16 0x80#8, f 0x8003#16 0x00#8]) = true := by decide +kernel

theorem test_vector_rolAbs :
    (vectorOk (boundary [0x2E#8, 0x00#8, 0x02#8] 0x33#8 0x17#8 0xFD#8 [(0x0200#16, 0x80#8)]) 0x33#8 0x15#8 0x8003#16 0xFD#8 [(0x0200#16, 0x01#8)]
        [r 0x8001#16 0x00#8, r 0x8002#16 0x02#8, r 0x0200#16 0x80#8, w 0x0200#16 0x80#8, w 0x0200#16 0x01#8, f 0x8003#16 0x00#8]) = true := by decide +kernel

theorem test_vector_lsrAbs :
    (vectorOk (boundary [0x4E#8, 0x00#8, 0x02#8] 0x33#8 0x16#8 0xFD#8 [(0x0200#16, 0x03#8)]) 0x33#8 0x15#8 0x8003#16 0xFD#8 [(0x0200#16, 0x01#8)]
        [r 0x8001#16 0x00#8, r 0x8002#16 0x02#8, r 0x0200#16 0x03#8, w 0x0200#16 0x03#8, w 0x0200#16 0x01#8, f 0x8003#16 0x00#8]) = true := by decide +kernel

theorem test_vector_rorAbs :
    (vectorOk (boundary [0x6E#8, 0x00#8, 0x02#8] 0x33#8 0x16#8 0xFD#8 [(0x0200#16, 0x01#8)]) 0x33#8 0x17#8 0x8003#16 0xFD#8 [(0x0200#16, 0x00#8)]
        [r 0x8001#16 0x00#8, r 0x8002#16 0x02#8, r 0x0200#16 0x01#8, w 0x0200#16 0x01#8, w 0x0200#16 0x00#8, f 0x8003#16 0x00#8] &&
      vectorOk (boundary [0x6E#8, 0x00#8, 0x02#8] 0x33#8 0x17#8 0xFD#8 [(0x0200#16, 0x00#8)]) 0x33#8 0x94#8 0x8003#16 0xFD#8 [(0x0200#16, 0x80#8)]
        [r 0x8001#16 0x00#8, r 0x8002#16 0x02#8, r 0x0200#16 0x00#8, w 0x0200#16 0x00#8, w 0x0200#16 0x80#8, f 0x8003#16 0x00#8]) = true := by decide +kernel

theorem test_vector_jmp :
    (vectorOk (boundary [0x4C#8, 0x34#8, 0x12#8] 0x00#8 0x16#8 0xFD#8 []) 0x00#8 0x16#8 0x1234#16 0xFD#8 []
        [r 0x8001#16 0x34#8, r 0x8002#16 0x12#8, f 0x1234#16 0x00#8] &&
      vectorOk (boundary [0x4C#8, 0x00#8, 0x80#8] 0x00#8 0x16#8 0xFD#8 []) 0x00#8 0x16#8 0x8000#16 0xFD#8 []
        [r 0x8001#16 0x00#8, r 0x8002#16 0x80#8, f 0x8000#16 0x4C#8]) = true := by decide +kernel

theorem test_vector_jsr :
    (vectorOk (boundary [0x20#8, 0x00#8, 0x90#8] 0x00#8 0x16#8 0xFD#8 []) 0x00#8 0x16#8 0x9000#16 0xFB#8 [(0x01FD#16, 0x80#8), (0x01FC#16, 0x02#8)]
        [r 0x8001#16 0x00#8, r 0x01FD#16 0x00#8, w 0x01FD#16 0x80#8, w 0x01FC#16 0x02#8, r 0x8002#16 0x90#8, f 0x9000#16 0x00#8] &&
      vectorOk (boundary [0x20#8, 0x00#8, 0x90#8] 0x00#8 0x16#8 0x00#8 []) 0x00#8 0x16#8 0x9000#16 0xFE#8 [(0x0100#16, 0x80#8), (0x01FF#16, 0x02#8)]
        [r 0x8001#16 0x00#8, r 0x0100#16 0x00#8, w 0x0100#16 0x80#8, w 0x01FF#16 0x02#8, r 0x8002#16 0x90#8, f 0x9000#16 0x00#8]) = true := by decide +kernel

theorem test_vector_clc :
    (vectorOk (boundary [0x18#8] 0x00#8 0x17#8 0xFD#8 []) 0x00#8 0x16#8 0x8001#16 0xFD#8 []
        [r 0x8001#16 0x00#8, f 0x8001#16 0x00#8]) = true := by decide +kernel

theorem test_vector_sec :
    (vectorOk (boundary [0x38#8] 0x00#8 0x16#8 0xFD#8 []) 0x00#8 0x17#8 0x8001#16 0xFD#8 []
        [r 0x8001#16 0x00#8, f 0x8001#16 0x00#8]) = true := by decide +kernel

theorem test_vector_cli :
    (vectorOk (boundary [0x58#8] 0x00#8 0x16#8 0xFD#8 []) 0x00#8 0x12#8 0x8001#16 0xFD#8 []
        [r 0x8001#16 0x00#8, f 0x8001#16 0x00#8]) = true := by decide +kernel

theorem test_vector_sei :
    (vectorOk (boundary [0x78#8] 0x00#8 0x12#8 0xFD#8 []) 0x00#8 0x16#8 0x8001#16 0xFD#8 []
        [r 0x8001#16 0x00#8, f 0x8001#16 0x00#8]) = true := by decide +kernel

theorem test_vector_clv :
    (vectorOk (boundary [0xB8#8] 0x00#8 0x56#8 0xFD#8 []) 0x00#8 0x16#8 0x8001#16 0xFD#8 []
        [r 0x8001#16 0x00#8, f 0x8001#16 0x00#8]) = true := by decide +kernel

theorem test_vector_cld :
    (vectorOk (boundary [0xD8#8] 0x00#8 0x1E#8 0xFD#8 []) 0x00#8 0x16#8 0x8001#16 0xFD#8 []
        [r 0x8001#16 0x00#8, f 0x8001#16 0x00#8]) = true := by decide +kernel

theorem test_vector_sed :
    (vectorOk (boundary [0xF8#8] 0x00#8 0x16#8 0xFD#8 []) 0x00#8 0x1E#8 0x8001#16 0xFD#8 []
        [r 0x8001#16 0x00#8, f 0x8001#16 0x00#8]) = true := by decide +kernel

theorem test_vector_brk :
    (vectorOk (boundary [0x00#8, 0xEA#8] 0x00#8 0x16#8 0xFD#8 [(0xFFFE#16, 0x00#8), (0xFFFF#16, 0x90#8)]) 0x00#8 0x16#8 0x9000#16 0xFA#8 [(0x01FD#16, 0x80#8), (0x01FC#16, 0x02#8), (0x01FB#16, 0x36#8)]
        [r 0x8001#16 0xEA#8, w 0x01FD#16 0x80#8, w 0x01FC#16 0x02#8, w 0x01FB#16 0x36#8, r 0xFFFE#16 0x00#8, r 0xFFFF#16 0x90#8, f 0x9000#16 0x00#8] &&
      vectorOk (boundary [0x00#8, 0x00#8] 0x00#8 0xC3#8 0x01#8 [(0xFFFE#16, 0x34#8), (0xFFFF#16, 0x12#8)]) 0x00#8 0xD7#8 0x1234#16 0xFE#8 [(0x0101#16, 0x80#8), (0x0100#16, 0x02#8), (0x01FF#16, 0xE3#8)]
        [r 0x8001#16 0x00#8, w 0x0101#16 0x80#8, w 0x0100#16 0x02#8, w 0x01FF#16 0xE3#8, r 0xFFFE#16 0x34#8, r 0xFFFF#16 0x12#8, f 0x1234#16 0x00#8]) = true := by decide +kernel

/-! ### Sections 3.2, 3.3 and 4: calls of `tick`, faults, reset, interrupts -/

/-- The core and vector of a call, the core with its fault mark where it raised. -/
def callOf (c : Core) (p : Pins) : Core × Pins :=
  match tick c p with
  | .returned c' p' => (c', p')
  | .raised _ c' => (c', p)

/-- The core after calls with these vectors, and the last vector returned. -/
def calls (c : Core) : List Pins → Core × Pins
  | [] => (c, 0#64)
  | [p] => callOf c p
  | p :: rest => calls (callOf c p).1 rest

/-- Section 3.2, calls 1 to 6 from the power-up core. -/
theorem test_direct_calls :
    (let c := Core.powerUp 0x00#8 0x0000#16
     let k := calls c
     decide ((k [0#64]).2 = 0#64 ∧ (k [0#64, 0x040000002A#64]).2 = 0x048000002A#64 ∧
        (k [0#64, 0x040000002A#64]).1.ir = ⟨0x00#8, 1#3⟩ ∧ (k [0#64, 0x040000002A#64]).1.brkFlags = 4#3 ∧
        (k [0#64, 0x040000002A#64, 0x040000002A#64]).2 = 0x040000002A#64 ∧
        (k [0#64, 0x040000002A#64, 0x040000002A#64, 0x048000002A#64, 0x008000002A#64]).2 = 0x008000002A#64) &&
       (let e := k [0#64, 0x040000002A#64, 0x040000002A#64, 0x048000002A#64, 0x008000002A#64, 0x248000002A#64]
        decide (e.2 = 0x248000802A#64 ∧ e.1.s = 0xFF#8 ∧ e.1.pc = 0x0001#16 ∧ e.1.ir = ⟨0x00#8, 2#3⟩))) = true := by
  decide +kernel

/-- Section 3.3, first row: the SYNC tick that latches 0xEA faults with step 0 and PC one past it; every later call raises
the fault again. -/
theorem test_unimplemented_fault :
    (let s := boundaryAt 0x8002#16 [0xEA#8] 0x01#8 0x14#8 0xFD#8 []
     let c := s.coreAfterCycle
     faultIs s.cycle (.engine (.unimplementedOpcode 0xEA#8 0#3)) && faultIs (step s) (.engine (.unimplementedOpcode 0xEA#8 0#3)) &&
       decide (c.a = 0x01#8 ∧ c.p = 0x14#8 ∧ c.s = 0xFD#8 ∧ c.pc = 0x8003#16 ∧ c.ir = ⟨0xEA#8, 0#3⟩ ∧
         c.fault = some (.unimplementedOpcode 0xEA#8 0#3) ∧ tick c 0#64 = .raised (.unimplementedOpcode 0xEA#8 0#3) c)) = true := by
  decide +kernel

/-- Section 3.3, second and third rows: ADC # and SBC absolute fault with D set, in steps 1 and 3. -/
theorem test_decimal_faults :
    (faultIs (step (boundary [0x69#8, 0x01#8] 0x00#8 0x1E#8 0xFD#8 [])) (.engine (.decimalModeUnsupported 0x69#8 1#3)) &&
      faultIs (step (boundary [0xED#8, 0x00#8, 0x02#8] 0x00#8 0x1E#8 0xFD#8 []))
        (.engine (.decimalModeUnsupported 0xED#8 3#3))) = true := by
  decide +kernel

/-- Section 4.1 and `70_reset_and_hazards.md` R242: the reset from power-up, with the vector's content 0x8000. -/
theorem test_reset_to_8000 :
    (nextAnd ((State.powerUp 0x00#8 0x0000#16 [(0xFFFD, 0x80#8)] Config.referenceMap [⟨false, true, true, true⟩]).cycles 7)
      fun t => decide (t.StartsAt 0x8000#16 ∧ t.core.a = 0x00#8 ∧ t.core.x = 0x00#8 ∧ t.core.y = 0x00#8 ∧
        t.core.s = 0xFD#8 ∧ t.core.p = 0x16#8 ∧ t.core.ir = ⟨0x00#8, 7#3⟩ ∧ t.core.brkFlags = 0#3)) = true := by
  decide +kernel

/-- `State.reset` is where a reset from power-up ends, with the values of log 1 to 4. -/
theorem test_reset_state_reached :
    (nextAnd ((State.powerUp Config.sPowerUp Config.adPowerUp [] Config.referenceMap [⟨false, true, true, true⟩]).cycles 7)
      fun t => decide (t = State.reset)) = true := by
  decide +kernel

/-! ### Witnesses: concrete inputs that meet the hypotheses of each statement that has some -/

theorem witness_EncodeOfDecodeIsIdentity :
    decode [0x20#8, 0xFF#8, 0xFF#8, 0x77#8] = .ok (.jsr 0xFFFF#16, [0x77#8]) ∧ decode [0xC9#8, 0x00#8] = .ok (.cmpImm 0x00#8, []) ∧
      decode [0xFF#8] = .ok (.bbs7_r_FF, []) := by
  exact ⟨rfl, rfl, rfl⟩

/-- A live core before a rising edge, and the vector of that edge with the byte `d` on the data pins. -/
def edgeCore (p sp : Byte) (pc : Word) (ir : IR) : Core :=
  { Core.powerUp sp 0x0000#16 with p := p, pc := pc, ir := ir, pinsPrev := Pin.nmib.mask }

/-- The vector of a rising edge: `sync` and `resb` as given, the other lines inactive. -/
def edgePins (sync resb : Bool) (d : Byte) : Pins :=
  presentInputs (setData (drive (beginRead 0#64) .sync sync) d) ⟨resb, true, true, true⟩

theorem witness_EveryFetchIsAReadAtPc :
    pin (edgeCore 0x16#8 0xFD#8 0x8001#16 ⟨0x38#8, 1#3⟩).pinsPrev .phi2 = false ∧ pin (edgePins false true 0x00#8) .phi2 = true ∧
      ∃ c' p', tick (edgeCore 0x16#8 0xFD#8 0x8001#16 ⟨0x38#8, 1#3⟩) (edgePins false true 0x00#8) = .returned c' p' ∧
        pin p' .sync = true := by
  exact ⟨by decide, by decide, returned_of_returnedAnd (by decide +kernel)⟩

/-- No edge: PHI2 low, and PHI2 high twice. -/
theorem witness_NoEdgeCallChangesNothing :
    State.reset.core.fault = none ∧
      ¬ (pin State.reset.core.pinsPrev .phi2 = false ∧ pin (drive State.reset.pins .phi2 false) .phi2 = true) ∧
      ¬ (pin State.reset.core.pinsPrev .phi2 = false ∧ pin State.reset.pins .phi2 = true) := by
  decide +kernel

theorem witness_FaultsAreTerminal :
    (∃ c', tick (edgeCore 0x16#8 0xFD#8 0x8000#16 ⟨0x00#8, 7#3⟩) (edgePins true true 0xEA#8) =
        .raised (.unimplementedOpcode 0xEA#8 0#3) c') ∧
      ({ State.reset with core := { State.reset.core with fault := some (.unimplementedOpcode 0xEA#8 0#3) } } :
        State).core.fault = some (.unimplementedOpcode 0xEA#8 0#3) := by
  exact ⟨⟨_, rfl⟩, rfl⟩

theorem witness_UnimplementedOpcodeFaultsAtItsSyncTick :
    let c := { edgeCore 0x16#8 0xFD#8 0xFFFF#16 ⟨0x00#8, 7#3⟩ with irqPip := 0xFFFB#16, nmiPip := 0x0003#16 }
    let p := edgePins true true 0xFF#8
    c.fault = none ∧ pin c.pinsPrev .phi2 = false ∧ pin p .phi2 = true ∧ pin p .sync = true ∧ pin p .resb = true ∧
      recognised c.brkFlags c.irqPip c.nmiPip = 0#3 ∧ getData p ∉ admittedOpcodes := by
  decide +kernel

/-- An admitted opcode at its declared length, and an opcode with no program at step 0. -/
theorem witness_StepOverrunFaults :
    let p := edgePins false true 0x00#8
    let c := edgeCore 0x16#8 0xFD#8 0x8002#16 ⟨0xA9#8, 2#3⟩
    let d := edgeCore 0x16#8 0xFD#8 0x8002#16 ⟨0xEA#8, 0#3⟩
    c.fault = none ∧ pin c.pinsPrev .phi2 = false ∧ pin p .phi2 = true ∧ pin p .sync = false ∧ pin p .resb = true ∧
      programLength c.ir.opcode ≤ c.ir.step.toNat ∧ programLength d.ir.opcode ≤ d.ir.step.toNat := by
  decide +kernel

/-- With SYNC high and with SYNC low. -/
theorem witness_ResetLowTickRestartsTheSequence :
    let c := edgeCore 0x16#8 0xFD#8 0x8002#16 ⟨0xAD#8, 2#3⟩
    ∀ sync, c.fault = none ∧ pin c.pinsPrev .phi2 = false ∧ pin (edgePins sync false 0x00#8) .phi2 = true ∧
      pin (edgePins sync false 0x00#8) .resb = false := by
  decide +kernel

/-- A call that returns, a call that raises, and two vectors that differ in ignored bits only. -/
theorem witness_IgnoredPinsAreNeitherReadNorDriven :
    let c := edgeCore 0x16#8 0xFD#8 0x8002#16 ⟨0x00#8, 7#3⟩
    (∃ c' p', tick c (edgePins true true 0x38#8) = .returned c' p' ∧ true = true) ∧
      (∃ c', tick c (edgePins true true 0xEA#8) = .raised (.unimplementedOpcode 0xEA#8 0#3) c') ∧ ignoredBit 0 ∧ ignoredBit 63 ∧
      ∀ k, ¬ ignoredBit k → (edgePins true true 0x38#8).getLsbD k = (edgePins true true 0x38#8 ||| 0x1#64).getLsbD k := by
  refine ⟨returned_of_returnedAnd (f := fun _ _ => true) (by decide +kernel), ⟨_, rfl⟩, by decide, by decide, ?_⟩
  intro k hk
  have h0 : k ≠ 0 := fun h => hk (h ▸ by decide)
  rw [BitVec.getLsbD_or]
  simp [h0]

/-- In the middle of an instruction, at its last step. -/
theorem witness_StepCounterStaysWithinTheDeclaredLength :
    let c := edgeCore 0x16#8 0xFD#8 0x8002#16 ⟨0x00#8, 6#3⟩
    let p := edgePins false true 0x90#8
    pin c.pinsPrev .phi2 = false ∧ pin p .phi2 = true ∧ pin p .sync = false ∧ pin p .resb = true ∧
      ∃ c' p', tick c p = .returned c' p' ∧ true = true := by
  exact ⟨by decide, by decide, by decide, by decide, returned_of_returnedAnd (f := fun _ _ => true) (by decide +kernel)⟩

theorem witness_PipelinesSampleAndAge :
    let c := { edgeCore 0x12#8 0xFD#8 0x8002#16 ⟨0x00#8, 7#3⟩ with irqPip := 0xFFFF#16, nmiPip := 0x8001#16 }
    let p := presentInputs (setData (drive 0#64 .sync true) 0x38#8) ⟨true, false, false, true⟩
    pin c.pinsPrev .phi2 = false ∧ pin p .phi2 = true ∧ ∃ c' p', tick c p = .returned c' p' ∧ true = true := by
  exact ⟨by decide, by decide, returned_of_returnedAnd (f := fun _ _ => true) (by decide +kernel)⟩

/-- Each pending flag alone, and none with an admitted opcode. -/
theorem witness_SyncTickHijacksOrAdvances :
    let c := edgeCore 0x12#8 0xFD#8 0x8002#16 ⟨0x00#8, 7#3⟩
    let p := edgePins true true 0x38#8
    (c.fault = none ∧ pin c.pinsPrev .phi2 = false ∧ pin p .phi2 = true ∧ pin p .sync = true ∧ pin p .resb = true) ∧
      (({ c with irqPip := 0x0004#16 } : Core).irqPip.getLsbD 2 = true ∧ 4 ≤ ({ c with nmiPip := 0x0004#16 } : Core).nmiPip.toNat ∧
        ({ c with brkFlags := 4#3 } : Core).brkFlags.getLsbD 2 = true) ∧
      (c.brkFlags.getLsbD 0 || c.irqPip.getLsbD 2 || (c.brkFlags.getLsbD 1 || decide (4 ≤ c.nmiPip.toNat)) ||
        c.brkFlags.getLsbD 2) = false ∧ getData p ∈ admittedOpcodes := by
  decide +kernel

theorem witness_AdcLaw_SbcLaw : flag 0x08#8 .d = true ∧ flag 0xF7#8 .d = false := by decide

/-- The last operand bytes of an instruction that wraps from 0xFFFF to 0x0000. -/
theorem witness_ImmediateReadsComplete :
    (boundaryAt 0xFFFE#16 [0xA9#8, 0x00#8] 0x55#8 0x16#8 0xFD#8 []).Mapped
      ((boundaryAt 0xFFFE#16 [0xA9#8, 0x00#8] 0x55#8 0x16#8 0xFD#8 []).core.pc + 2#16) := by
  decide +kernel

theorem witness_AbsoluteReadsComplete :
    (startOf (.ldaAbs 0xFFFF#16) 0x16#8 [(0xFFFF#16, 0x80#8)]).readByte 0xFFFF#16 = some 0x80#8 ∧
      (startOf (.ldaAbs 0xFFFF#16) 0x16#8 [(0xFFFF#16, 0x80#8)]).Mapped 0x8003#16 := by
  decide +kernel

theorem witness_AddAndSubtractComplete :
    let s := startOf (.adcAbs 0x0000#16) 0x16#8 [(0x0000#16, 0xFF#8)]
    flag s.core.p .d = false ∧ s.Mapped (s.core.pc + 2#16) ∧ s.readByte 0x0000#16 = some 0xFF#8 ∧ s.Mapped (s.core.pc + 3#16) := by
  decide +kernel

/-- The operand at the last address, the faulting tick of each opcode, and the instruction's start. -/
theorem witness_DecimalModeFaults :
    (flag (startOf (.adcAbs 0xFFFF#16) 0x1E#8 []).core.p .d = true ∧ (startOf (.adcAbs 0xFFFF#16) 0x1E#8 []).Mapped 0xFFFF#16) ∧
      (∀ ir ∈ ([⟨0x69#8, 1#3⟩, ⟨0xE9#8, 1#3⟩, ⟨0x6D#8, 3#3⟩, ⟨0xED#8, 3#3⟩] : List IR),
        let c := edgeCore 0x1E#8 0xFD#8 0x8002#16 ir
        let p := edgePins false true 0xFF#8
        c.fault = none ∧ pin c.pinsPrev .phi2 = false ∧ pin p .phi2 = true ∧ pin p .sync = false ∧ pin p .resb = true ∧
          flag c.p .d = true) ∧
      ∀ i ∈ [Instr.adcImm 0xFF#8, .sbcImm 0x00#8, .adcAbs 0xFFFF#16, .sbcAbs 0x0000#16],
        (startOf i 0x1E#8 []).RunsWhole i := by
  have h : ∀ i ∈ [Instr.adcImm 0xFF#8, .sbcImm 0x00#8, .adcAbs 0xFFFF#16, .sbcAbs 0x0000#16],
      runsWhole (startOf i 0x1E#8 []) i = true := by decide +kernel
  exact ⟨by decide +kernel, by decide +kernel, fun i hi => runsWhole_spec (h i hi)⟩

/-- A map in which 0x9000 to 0xFFFB is unmapped. -/
def holes : List Region := [⟨0x0000, 0x7FFF, .ram⟩, ⟨0x8000, 0x8FFF, .rom⟩, ⟨0xFFFC, 0xFFFF, .rom⟩]

theorem witness_StoreAccumulatorCompletes :
    (startOf (.sta 0x01FF#16) 0x16#8 []).Mapped 0x8003#16 ∧ (startOf (.sta 0x01FF#16) 0x16#8 []).Writable 0x01FF#16 ∧
      ¬ (startOf (.sta 0x8000#16) 0x16#8 []).Writable 0x8000#16 ∧
      ¬ ({ startOf (.sta 0x9000#16) 0x16#8 [] with map := holes } : State).Mapped 0x9000#16 := by
  decide +kernel

theorem witness_AccumulatorShiftsComplete_FlagInstructionsComplete :
    (startOf .aslAcc 0x16#8 []).Mapped ((startOf .aslAcc 0x16#8 []).core.pc + 1#16) := by decide +kernel

/-- A RAM operand and a ROM operand. -/
theorem witness_AbsoluteShiftsComplete :
    let s := startOf (.aslAbs 0x7FFF#16) 0x16#8 [(0x7FFF#16, 0xC0#8)]
    s.readByte 0x7FFF#16 = some 0xC0#8 ∧ s.readByte 0x8000#16 = some 0x0E#8 ∧ s.Mapped (s.core.pc + 3#16) := by
  decide +kernel

theorem witness_JumpCompletes : (startOf (.jmp 0xFFFF#16) 0x16#8 []).Mapped 0xFFFF#16 := by decide +kernel

/-- Away from the stack, and with the last byte at a stack location that is ROM. -/
theorem witness_SubroutineCallCompletes :
    (let s := boundary (encode (.jsr 0x9000#16)) 0x55#8 0x16#8 0x00#8 []
     s.Mapped (stackSlot s.core.s) ∧ s.readByte (s.core.pc + 2#16) = some (hi 0x9000#16) ∧ s.Mapped 0x9000#16 ∧
       s.core.pc + 2#16 ∉ [stackSlot s.core.s, stackSlot (s.core.s - 1#8)]) ∧
    (let s := { boundaryAt 0x01FB#16 (encode (.jsr 0x9000#16)) 0x55#8 0x16#8 0xFD#8 [] with map := [⟨0x0000, 0xFFFF, .rom⟩] }
     s.Mapped (stackSlot s.core.s) ∧ s.readByte (s.core.pc + 2#16) = some (hi 0x9000#16) ∧ s.Mapped 0x9000#16 ∧
       s.core.pc + 2#16 ∈ [stackSlot s.core.s, stackSlot (s.core.s - 1#8)] ∧ ¬ s.Writable (s.core.pc + 2#16)) := by
  decide +kernel

/-- Both locations: the JSR's last byte at 0x01FD with S = 0xFD, and with S = 0xFE. -/
theorem witness_SubroutineCallOverItself :
    (let s := boundaryAt 0x01FB#16 (encode (.jsr 0x9034#16)) 0x55#8 0x16#8 0xFD#8 []
     s.mem.wf = true ∧ s.Writable (s.core.pc + 2#16) ∧ s.Mapped (stackSlot s.core.s) ∧
       s.core.pc + 2#16 = stackSlot s.core.s ∧ s.Mapped (join (hi (s.core.pc + 2#16)) 0x34#8)) ∧
    (let s := boundaryAt 0x01FB#16 (encode (.jsr 0x9034#16)) 0x55#8 0x16#8 0xFE#8 []
     s.mem.wf = true ∧ s.Writable (s.core.pc + 2#16) ∧ s.Mapped (stackSlot s.core.s) ∧
       s.core.pc + 2#16 = stackSlot (s.core.s - 1#8) ∧ s.Mapped (join (lo (s.core.pc + 2#16)) 0x34#8)) := by
  decide +kernel

/-- A state whose vectors all hold 0x9000. -/
def vectored (i : Instr) (p sp : Byte) : State :=
  boundary (encode i) 0x55#8 p sp [(0xFFFB#16, 0x90#8), (0xFFFD#16, 0x90#8), (0xFFFF#16, 0x90#8)]

theorem witness_BreakCompletes :
    let s := vectored .brk 0x16#8 0x01#8
    s.Mapped (s.core.pc + 1#16) ∧ s.readByte 0xFFFE#16 = some 0x00#8 ∧ s.readByte 0xFFFF#16 = some 0x90#8 ∧
      s.Mapped (join 0x90#8 0x00#8) := by
  decide +kernel

theorem witness_UnimplementedOpcodesStop : Instr.nop_i_EA.admitted = false ∧ Instr.bbs7_r_FF.admitted = false := by decide

/-- A stop of each kind. -/
theorem witness_StopsOfAdmittedInstructions :
    exec (.ldaAbs 0x9000#16) { startOf (.ldaAbs 0x9000#16) 0x16#8 [] with map := holes } = .fault (.unmappedRead 0x9000#16) ∧
      exec (.sbcImm 0x00#8) (startOf (.sbcImm 0x00#8) 0x1E#8 []) = .fault (.engine (.decimalModeUnsupported 0xE9#8 1#3)) ∧
      (Instr.ldaAbs 0x9000#16).admitted = true ∧ (Instr.sbcImm 0x00#8).admitted = true := by
  exact ⟨fault_of_faultIs (by decide +kernel), fault_of_faultIs (by decide +kernel), rfl, rfl⟩

/-- The operand, the byte after the opcode at the first unmapped address, and the stack. -/
theorem witness_UnmappedReadsEndTheRun :
    ({ startOf (.ldaAbs 0xFFFB#16) 0x16#8 [] with map := holes } : State).readByte 0xFFFB#16 = none ∧
      (let s := { boundaryAt 0x8FFF#16 [0x38#8] 0x55#8 0x16#8 0xFD#8 [] with map := holes }
       s.readByte (s.core.pc + 1#16) = none) ∧
      (let s := { startOf (.jsr 0x8000#16) 0x16#8 [] with map := [⟨0x8000, 0xFFFF, .rom⟩] }
       s.readByte (stackSlot s.core.s) = none) := by
  decide +kernel

theorem witness_QuietLinesAgeThePipelines :
    (startOf (.aslAbs 0x0200#16) 0x16#8 []).inputs = [] ∧
      ∃ t, exec (.aslAbs 0x0200#16) (startOf (.aslAbs 0x0200#16) 0x16#8 []) = .next t ∧ true = true := by
  exact ⟨rfl, next_of_nextAnd (f := fun _ => true) (by decide +kernel)⟩

/-- By the pending flag, and by bit 2 of the pipeline. -/
theorem witness_IrqEntry :
    let s := vectored .sec 0x12#8 0x01#8
    (s.core.fault = none ∧ pin s.pins .sync = true ∧ s.resbHigh 7 = true ∧ s.core.brkFlags.getLsbD 1 = false ∧
      s.core.nmiPip.toNat < 4 ∧ s.core.brkFlags.getLsbD 2 = false ∧ s.Mapped s.core.pc ∧
      s.readByte 0xFFFE#16 = some 0x00#8 ∧ s.readByte 0xFFFF#16 = some 0x90#8 ∧ s.Mapped (join 0x90#8 0x00#8)) ∧
    (({ s with core := { s.core with brkFlags := 1#3 } } : State).core.brkFlags.getLsbD 0 = true ∧
      ({ s with core := { s.core with irqPip := 0x0004#16 } } : State).core.irqPip.getLsbD 2 = true) := by
  decide +kernel

theorem witness_NmiEntry :
    let s := { vectored .sec 0x16#8 0x01#8 with core := { (vectored .sec 0x16#8 0x01#8).core with nmiPip := 0x0004#16 } }
    s.core.fault = none ∧ pin s.pins .sync = true ∧ s.resbHigh 7 = true ∧ 4 ≤ s.core.nmiPip.toNat ∧
      s.core.brkFlags.getLsbD 2 = false ∧ s.Mapped s.core.pc ∧ s.readByte 0xFFFA#16 = some 0x00#8 ∧
      s.readByte 0xFFFB#16 = some 0x90#8 ∧ s.Mapped (join 0x90#8 0x00#8) := by
  decide +kernel

/-- A seeded state (`10_state.md` R36) with all three flags set. -/
theorem witness_ResetPendingEntry :
    let s := { vectored .sec 0x16#8 0x01#8 with core := { (vectored .sec 0x16#8 0x01#8).core with brkFlags := 7#3 } }
    s.core.fault = none ∧ pin s.pins .sync = true ∧ s.resbHigh 7 = true ∧ s.core.brkFlags.getLsbD 2 = true ∧
      s.readByte s.core.pc = some 0x38#8 ∧ s.readByte (stackSlot s.core.s) = some 0x00#8 ∧
      s.readByte (stackSlot (s.core.s - 1#8)) = some 0x00#8 ∧ s.readByte (stackSlot (s.core.s - 2#8)) = some 0x00#8 ∧
      s.readByte 0xFFFC#16 = some 0x00#8 ∧ s.readByte 0xFFFD#16 = some 0x90#8 ∧ s.Mapped (join 0x90#8 0x00#8) := by
  decide +kernel

/-- CLI, then SEI, with IRQB held low. -/
theorem witness_CliDelaysTheInterrupt :
    let s := { startOf .cli 0x16#8 [] with inputs := List.replicate 8 ⟨true, false, true, true⟩ }
    (flag s.core.p .i = true ∧ s.core.irqPip = 0#16 ∧ s.core.nmiPip = 0#16 ∧ s.core.brkFlags = 0#3) ∧
      ∃ t, exec .cli s = .next t ∧ nextAnd (exec .sei t) (fun _ => true) = true := by
  exact ⟨by decide +kernel,
    next_of_nextAnd (f := fun t => nextAnd (exec .sei t) fun _ => true) (by decide +kernel)⟩

/-- The conditions under which an instruction runs whole, for an instruction of each format and an unimplemented one. -/
theorem witness_InstructionIsItsTicks_StepRunsTheDecodedInstruction :
    ∀ i ∈ [Instr.sec, .aslAcc, .ldaImm 0x00#8, .ldaAbs 0xFFFF#16, .sta 0x0000#16, .aslAbs 0x0200#16, .jmp 0x8000#16,
      .jsr 0x9000#16, .brk, .nop_i_EA], (startOf i 0x16#8 []).RunsWhole i := by
  have h : ∀ i ∈ [Instr.sec, .aslAcc, .ldaImm 0x00#8, .ldaAbs 0xFFFF#16, .sta 0x0000#16, .aslAbs 0x0200#16, .jmp 0x8000#16,
      .jsr 0x9000#16, .brk, .nop_i_EA], runsWhole (startOf i 0x16#8 []) i = true := by decide +kernel
  exact fun i hi => runsWhole_spec (h i hi)

theorem witness_InterruptIsItsTicks :
    let s := { vectored .sec 0x12#8 0x01#8 with core := { (vectored .sec 0x12#8 0x01#8).core with irqPip := 0x0004#16 } }
    s.core.fault = none ∧ pin s.pins .sync = true ∧ s.resbHigh 7 = true ∧ s.pendingAtSync ≠ 0#3 := by
  decide +kernel

theorem witness_ShortInstructionBusCycles :
    (∀ i ∈ [Instr.clc, .sec, .cli, .sei, .clv, .cld, .sed, .aslAcc, .rolAcc, .lsrAcc, .rorAcc, .oraImm 0xFF#8,
        .andImm 0xFF#8, .eorImm 0xFF#8, .adcImm 0xFF#8, .sbcImm 0xFF#8, .cmpImm 0xFF#8, .ldaImm 0xFF#8],
      (startOf i 0x16#8 []).RunsWhole i ∧ ∃ t, exec i (startOf i 0x16#8 []) = .next t ∧ true = true) := by
  have h : ∀ i ∈ [Instr.clc, .sec, .cli, .sei, .clv, .cld, .sed, .aslAcc, .rolAcc, .lsrAcc, .rorAcc, .oraImm 0xFF#8,
      .andImm 0xFF#8, .eorImm 0xFF#8, .adcImm 0xFF#8, .sbcImm 0xFF#8, .cmpImm 0xFF#8, .ldaImm 0xFF#8],
      runsWhole (startOf i 0x16#8 []) i = true ∧ nextAnd (exec i (startOf i 0x16#8 [])) (fun _ => true) = true := by
    decide +kernel
  exact fun i hi => ⟨runsWhole_spec (h i hi).1, next_of_nextAnd (h i hi).2⟩

theorem witness_AbsoluteInstructionBusCycles :
    (∀ i ∈ [Instr.oraAbs 0x0200#16, .andAbs 0x0200#16, .eorAbs 0x0200#16, .adcAbs 0x0200#16, .sbcAbs 0x0200#16,
        .cmpAbs 0x0200#16, .ldaAbs 0x0200#16, .sta 0x0200#16, .aslAbs 0x0200#16, .rolAbs 0x0200#16, .lsrAbs 0x0200#16,
        .rorAbs 0x0200#16, .jmp 0x0200#16],
      (startOf i 0x16#8 []).readByte 0x0200#16 = some 0x00#8 ∧ (startOf i 0x16#8 []).RunsWhole i ∧
        ∃ t, exec i (startOf i 0x16#8 []) = .next t ∧ true = true) := by
  have h : ∀ i ∈ [Instr.oraAbs 0x0200#16, .andAbs 0x0200#16, .eorAbs 0x0200#16, .adcAbs 0x0200#16, .sbcAbs 0x0200#16,
      .cmpAbs 0x0200#16, .ldaAbs 0x0200#16, .sta 0x0200#16, .aslAbs 0x0200#16, .rolAbs 0x0200#16, .lsrAbs 0x0200#16,
      .rorAbs 0x0200#16, .jmp 0x0200#16],
      (startOf i 0x16#8 []).readByte 0x0200#16 = some 0x00#8 ∧ runsWhole (startOf i 0x16#8 []) i = true ∧
        nextAnd (exec i (startOf i 0x16#8 [])) (fun _ => true) = true := by
    decide +kernel
  exact fun i hi => ⟨(h i hi).1, runsWhole_spec (h i hi).2.1, next_of_nextAnd (h i hi).2.2⟩

/-- STA to an address that no region maps. -/
theorem witness_AbsoluteInstructionBusCycles_unmapped :
    let s := { startOf (.sta 0x9000#16) 0x16#8 [] with map := holes }
    s.readByte 0x9000#16 = none ∧ s.RunsWhole (.sta 0x9000#16) ∧ ∃ t, exec (.sta 0x9000#16) s = .next t ∧ true = true := by
  exact ⟨by decide +kernel, runsWhole_spec (by decide +kernel), next_of_nextAnd (f := fun _ => true) (by decide +kernel)⟩

theorem witness_StackInstructionBusCycles :
    ((startOf (.jsr 0x9000#16) 0x16#8 []).RunsWhole (.jsr 0x9000#16) ∧
      (startOf (.jsr 0x9000#16) 0x16#8 []).readByte (stackSlot 0xFD#8) = some 0x00#8 ∧
      ∃ t, exec (.jsr 0x9000#16) (startOf (.jsr 0x9000#16) 0x16#8 []) = .next t ∧ true = true) ∧
    (vectored .brk 0x16#8 0x01#8).RunsWhole .brk ∧ (vectored .brk 0x16#8 0x01#8).readByte 0x8001#16 = some 0x00#8 ∧
      ∃ t, exec .brk (vectored .brk 0x16#8 0x01#8) = .next t ∧ true = true := by
  exact ⟨⟨runsWhole_spec (by decide +kernel), by decide +kernel, next_of_nextAnd (f := fun _ => true) (by decide +kernel)⟩,
    runsWhole_spec (by decide +kernel), by decide +kernel, next_of_nextAnd (f := fun _ => true) (by decide +kernel)⟩

/-- In the middle of a store, one tick low, the other lines active in both parts. -/
theorem witness_ResetFromAnyLiveState :
    let s := { vectored .sec 0x12#8 0x01#8 with
      core := { (vectored .sec 0x12#8 0x01#8).core with ir := ⟨0x8D#8, 2#3⟩ }, pins := 0#64,
      inputs := [(⟨false, false, false, true⟩ : Inputs)] ++ List.replicate 6 (⟨true, false, true, false⟩ : Inputs) ++ [Inputs.idle] }
    s.core.fault = none ∧ ([⟨false, false, false, true⟩] : List Inputs) ≠ [] ∧
      (∀ i ∈ ([⟨false, false, false, true⟩] : List Inputs), i.resb = false) ∧
      (List.replicate 6 (⟨true, false, true, false⟩ : Inputs)).length = 6 ∧
      (∀ i ∈ List.replicate 6 (⟨true, false, true, false⟩ : Inputs), i.resb = true) ∧ s.Mapped s.core.pc ∧
      s.Mapped (stackSlot s.core.s) ∧ s.Mapped (stackSlot (s.core.s - 1#8)) ∧ s.Mapped (stackSlot (s.core.s - 2#8)) ∧
      s.readByte 0xFFFC#16 = some 0x00#8 ∧ s.readByte 0xFFFD#16 = some 0x90#8 ∧ s.Mapped (join 0x90#8 0x00#8) := by
  decide +kernel

theorem witness_ResetFromPowerUp :
    let s := State.powerUp 0x01#8 0xFFFF#16 [(0xFFFD, 0x80#8)] Config.referenceMap [⟨false, true, true, false⟩]
    s.Mapped 0x0000#16 ∧ s.Mapped (stackSlot 0x01#8) ∧ s.Mapped (stackSlot (0x01#8 - 1#8)) ∧
      s.Mapped (stackSlot (0x01#8 - 2#8)) ∧ s.readByte 0xFFFC#16 = some 0x00#8 ∧ s.readByte 0xFFFD#16 = some 0x80#8 ∧
      s.Mapped (join 0x80#8 0x00#8) := by
  decide +kernel

theorem witness_PowerUpWithoutReset :
    let s := State.powerUp 0x01#8 0xFFFF#16 [(0xFFFF, 0x80#8)] Config.referenceMap []
    Memory.wf [(0xFFFF, 0x80#8)] = true ∧ s.Mapped 0x0000#16 ∧ s.Writable (stackSlot 0x01#8) ∧
      s.Writable (stackSlot (0x01#8 - 1#8)) ∧ s.Writable (stackSlot (0x01#8 - 2#8)) ∧
      s.readByte 0xFFFE#16 = some 0x00#8 ∧ s.readByte 0xFFFF#16 = some 0x80#8 ∧ s.Mapped (join 0x80#8 0x00#8) := by
  decide +kernel

theorem witness_InvariantHoldsAtStart : Memory.wf [(0, 0x01#8), (65535, 0xFF#8)] = true := by decide

/-- At an instruction boundary, and in the middle of an instruction. -/
theorem witness_InvariantKeptByStep :
    let s := startOf (.sta 0x0200#16) 0x16#8 []
    (s.Inv ∧ ∃ t, step s = .next t ∧ true = true) ∧
      ∃ u, s.cycle = .next u ∧ (decide u.Inv && nextAnd (step u) fun _ => true) = true := by
  exact ⟨⟨by decide +kernel, next_of_nextAnd (f := fun _ => true) (by decide +kernel)⟩,
    next_of_nextAnd (f := fun u => decide u.Inv && nextAnd (step u) fun _ => true) (by decide +kernel)⟩

theorem witness_NoStepOverrun :
    (startOf .nop_i_EA 0x16#8 []).Inv ∧
      step (startOf .nop_i_EA 0x16#8 []) = .fault (.engine (.unimplementedOpcode 0xEA#8 0#3)) := by
  exact ⟨by decide +kernel, fault_of_faultIs (by decide +kernel)⟩

/-- A step that stores, on RAM and on ROM, and an interrupt taken. -/
theorem witness_IndexRegistersAndBit5NeverChange_RomNeverChanges :
    (∃ t, step (startOf (.sta 0x7FFF#16) 0x16#8 []) = .next t ∧ true = true) ∧
      (∃ t, step (startOf (.sta 0x8000#16) 0x16#8 []) = .next t ∧ true = true) ∧
      (∃ t, step { vectored .sec 0x12#8 0x01#8 with
        core := { (vectored .sec 0x12#8 0x01#8).core with irqPip := 0x0004#16 } } = .next t ∧ true = true) ∧
      ¬ (startOf (.sta 0x8000#16) 0x16#8 []).Writable 0x8000#16 := by
  exact ⟨next_of_nextAnd (f := fun _ => true) (by decide +kernel), next_of_nextAnd (f := fun _ => true) (by decide +kernel),
    next_of_nextAnd (f := fun _ => true) (by decide +kernel), by decide +kernel⟩

theorem witness_FlagWritersAreComplete_RegisterWritersAreComplete :
    ∀ i ∈ [Instr.sec, .aslAcc, .ldaImm 0x00#8, .adcAbs 0xFFFF#16, .sta 0x0000#16, .aslAbs 0x0200#16, .jmp 0x8000#16,
      .jsr 0x9000#16, .brk], ∃ t, exec i (vectored i 0x16#8 0xFD#8) = .next t ∧ true = true := by
  have h : ∀ i ∈ [Instr.sec, .aslAcc, .ldaImm 0x00#8, .adcAbs 0xFFFF#16, .sta 0x0000#16, .aslAbs 0x0200#16, .jmp 0x8000#16,
      .jsr 0x9000#16, .brk], nextAnd (exec i (vectored i 0x16#8 0xFD#8)) (fun _ => true) = true := by decide +kernel
  exact fun i hi => next_of_nextAnd (f := fun _ => true) (h i hi)

end Sys2Proof.Tests
end

section
/-! SUPPORT. What the instruction-level meanings write, once for every instruction: the frame of each operand form, then
`exec_frame`, which finds the form of every constructor (`10_state.md` R10 to R12, R15, R20). -/

namespace Sys2Proof.Machine

/-! ### What a read operation and a shift write -/

/-- The flags a read operation may write, and whether it may write A (`10_state.md` R10, R15). -/
def ReadOp.WritesOnly (op : ReadOp) (flags : List Flag) (acc : Bool) : Prop :=
  ∀ a p v a' p', op a p v = some (a', p') → (∀ f, f ∉ flags → flag p' f = flag p f) ∧ (acc = false → a' = a)

/-- The flags a shift may write (`10_state.md` R15). -/
def ShiftOp.WritesOnly (op : ShiftOp) (flags : List Flag) : Prop := ∀ v p f, f ∉ flags → flag (op v p).2 f = flag p f

theorem flag_setNz_other (v p : Byte) {f : Flag} (h : f ∉ [Flag.z, .n]) : flag (setNz v p) f = flag p f := by
  rw [flag_setNz]
  cases f <;> simp at h ⊢

theorem flag_setNz_setCarry_other (v p : Byte) (c : Bool) {f : Flag} (h : f ∉ [Flag.c, .z, .n]) :
    flag (setNz v (setFlag p .c c)) f = flag p f := by
  obtain ⟨hc, hzn⟩ := not_or.mp (List.mem_cons.not.mp h)
  rw [flag_setNz_other _ _ hzn, flag_setFlag_other _ _ hc]

theorem opLda_writesOnly : opLda.WritesOnly [.z, .n] true := by
  rintro a p v _ _ ⟨⟩
  exact ⟨fun f => flag_setNz_other _ _, nofun⟩

theorem opOra_writesOnly : opOra.WritesOnly [.z, .n] true := by
  rintro a p v _ _ ⟨⟩
  exact ⟨fun f => flag_setNz_other _ _, nofun⟩

theorem opAnd_writesOnly : opAnd.WritesOnly [.z, .n] true := by
  rintro a p v _ _ ⟨⟩
  exact ⟨fun f => flag_setNz_other _ _, nofun⟩

theorem opEor_writesOnly : opEor.WritesOnly [.z, .n] true := by
  rintro a p v _ _ ⟨⟩
  exact ⟨fun f => flag_setNz_other _ _, nofun⟩

theorem opCmp_writesOnly : opCmp.WritesOnly [.c, .z, .n] false := by
  rintro a p v _ _ ⟨⟩
  exact ⟨fun f => flag_setNz_setCarry_other _ _ _, fun _ => rfl⟩

theorem opAdc_writesOnly : opAdc.WritesOnly [.c, .z, .v, .n] true := by
  intro a p v a' p' h
  unfold opAdc at h
  split at h
  · cases h
  · cases h
    refine ⟨fun f hf => ?_, nofun⟩
    simp only [List.mem_cons, List.not_mem_nil, or_false, not_or] at hf
    obtain ⟨hc, hz, hv, hn⟩ := hf
    exact flag_adc_other a v p hc hz hv hn

theorem opSbc_writesOnly : opSbc.WritesOnly [.c, .z, .v, .n] true := by
  intro a p v a' p' h
  unfold opSbc at h
  split at h
  · cases h
  · cases h
    refine ⟨fun f hf => ?_, nofun⟩
    simp only [List.mem_cons, List.not_mem_nil, or_false, not_or] at hf
    obtain ⟨hc, hz, hv, hn⟩ := hf
    exact flag_sbc_other a v p hc hz hv hn

theorem asl_writesOnly : ShiftOp.WritesOnly asl [.c, .z, .n] := fun _ _ _ => flag_setNz_setCarry_other _ _ _
theorem lsr_writesOnly : ShiftOp.WritesOnly lsr [.c, .z, .n] := fun _ _ _ => flag_setNz_setCarry_other _ _ _
theorem rol_writesOnly : ShiftOp.WritesOnly rol [.c, .z, .n] := fun _ _ _ => flag_setNz_setCarry_other _ _ _
theorem ror_writesOnly : ShiftOp.WritesOnly ror [.c, .z, .n] := fun _ _ _ => flag_setNz_setCarry_other _ _ _

/-! ### The frame of each operand form -/

/-- The registers after an instruction or an interrupt sequence that may write these flags and, if `acc`, A, that moves S
down by `down`, and that leaves `pending` as the pending flags. -/
structure State.Frame (s t : State) (flags : List Flag) (acc : Bool) (down : Byte) (pending : BitVec 3) : Prop where
  x : t.core.x = s.core.x
  y : t.core.y = s.core.y
  flags : s.KeepsFlags t flags
  a : acc = false → t.core.a = s.core.a
  sp : t.core.s = s.core.s - down
  brkFlags : t.core.brkFlags = pending

/-- The frame read off the core an instruction leaves: its ticks, then the fields it writes. -/
theorem State.Done.frame {s t : State} {opcode : Byte} {len : BitVec 3} (hd : s.Done t opcode len) {n : Nat}
    {a p sp : Byte} {pc ad : Word} {ir : IR} {prev : Pins} {flags : List Flag} {acc : Bool} {down : Byte}
    (hc : t.core = { (s.instrTicks n).core with
      a := a, p := p, s := sp, pc := pc, ad := ad, ir := ir, pinsPrev := prev })
    (hp : ∀ f, f ∉ flags → flag p f = flag s.core.p f) (ha : acc = false → a = s.core.a) (hs : sp = s.core.s - down) :
    s.Frame t flags acc down s.core.brkFlags := by
  refine ⟨hd.x, hd.y, fun f hf => ?_, fun hacc => ?_, ?_, ?_⟩ <;> rw [hc]
  · exact hp f hf
  · exact ha hacc
  · exact hs
  · simp

theorem immediate_frame {opcode v : Byte} {op : ReadOp} {flags : List Flag} {acc : Bool} {s t : State}
    (hop : op.WritesOnly flags acc) (h : immediate opcode op v s = .next t) :
    s.Frame t flags acc 0#8 s.core.brkFlags := by
  obtain ⟨hd, -, a, p, heq, hc⟩ := immediate_next h
  obtain ⟨hflags, hacc⟩ := hop _ _ _ _ _ heq
  exact hd.frame hc hflags hacc (by simp)

theorem absoluteRead_frame {opcode : Byte} {addr : Word} {op : ReadOp} {flags : List Flag} {acc : Bool} {s t : State}
    (hop : op.WritesOnly flags acc) (h : absoluteRead opcode op addr s = .next t) :
    s.Frame t flags acc 0#8 s.core.brkFlags := by
  obtain ⟨hd, -, v, a, p, -, heq, hc⟩ := absoluteRead_next h
  obtain ⟨hflags, hacc⟩ := hop _ _ _ _ _ heq
  exact hd.frame hc hflags hacc (by simp)

theorem absoluteWrite_frame {opcode v : Byte} {addr : Word} {s t : State} (h : absoluteWrite opcode v addr s = .next t) :
    s.Frame t [] false 0#8 s.core.brkFlags := by
  obtain ⟨hd, -, hc⟩ := absoluteWrite_next h
  exact hd.frame hc (by simp) (by simp) (by simp)

theorem absoluteModify_frame {opcode : Byte} {addr : Word} {op : ShiftOp} {flags : List Flag} {s t : State}
    (hop : op.WritesOnly flags) (h : absoluteModify opcode op addr s = .next t) :
    s.Frame t flags false 0#8 s.core.brkFlags := by
  obtain ⟨hd, m, -, -, hc⟩ := absoluteModify_next h
  exact hd.frame hc (hop _ _) (by simp) (by simp)

theorem accumulator_frame {opcode : Byte} {op : ShiftOp} {flags : List Flag} {s t : State}
    (hop : op.WritesOnly flags) (h : accumulator opcode op s = .next t) :
    s.Frame t flags true 0#8 s.core.brkFlags := by
  obtain ⟨hd, -, hc⟩ := accumulator_next h
  exact hd.frame hc (hop _ _) nofun (by simp)

theorem impliedFlag_frame {opcode : Byte} {f : Flag} {value : Bool} {s t : State}
    (h : impliedFlag opcode f value s = .next t) : s.Frame t [f] false 0#8 s.core.brkFlags := by
  obtain ⟨hd, -, hc⟩ := impliedFlag_next h
  exact hd.frame hc (fun f hf => flag_setFlag_other _ _ (by simpa using hf)) (by simp) (by simp)

theorem execJmp_frame {addr : Word} {s t : State} (h : execJmp addr s = .next t) :
    s.Frame t [] false 0#8 s.core.brkFlags := by
  obtain ⟨hd, -, hc⟩ := execJmp_next h
  exact hd.frame hc (by simp) (by simp) (by simp)

theorem execJsr_frame {addr : Word} {s t : State} (h : execJsr addr s = .next t) :
    s.Frame t [] false 2#8 s.core.brkFlags := by
  obtain ⟨hd, -, hb, -, hc⟩ := execJsr_next h
  exact hd.frame hc (by simp) (by simp) (by simp [BitVec.sub_sub])

theorem State.brkSequence_frame {s t : State} {flags : BitVec 3} (h : s.brkSequence flags = .next t) :
    s.Frame t [.i, .b] false 3#8 0#3 := by
  obtain ⟨hd, ha, hs, hp, hb, -, -⟩ := State.brkSequence_next h
  refine ⟨hd.x, hd.y, fun f hf => ?_, fun _ => ha, by rw [hs]; simp [BitVec.sub_sub], hb⟩
  rw [hp, flag_maskedStatus]
  cases f <;> simp at hf ⊢

/-- A sequence that first runs to a state with the same registers, but for flags it writes anyway, and other pending flags. -/
theorem State.Frame.of_start {s u t : State} {flags : List Flag} {acc : Bool} {down : Byte} {pending : BitVec 3}
    (h : u.Frame t flags acc down pending) (hx : u.core.x = s.core.x) (hy : u.core.y = s.core.y)
    (hflags : s.KeepsFlags u flags) (ha : u.core.a = s.core.a) (hs : u.core.s = s.core.s) :
    s.Frame t flags acc down pending where
  x := h.x.trans hx
  y := h.y.trans hy
  flags f hf := (h.flags f hf).trans (hflags f hf)
  a hacc := (h.a hacc).trans ha
  sp := by rw [h.sp, hs]
  brkFlags := h.brkFlags

theorem execBrk_frame {s t : State} (h : execBrk s = .next t) : s.Frame t [.i, .b] false 3#8 0#3 := by
  obtain ⟨-, -, h⟩ := State.readThen_next h
  exact (State.brkSequence_frame h).of_start rfl rfl (fun _ _ => rfl) rfl rfl

theorem State.takeInterrupt_frame {s t : State} (h : s.takeInterrupt = .next t) : s.Frame t [.i, .b] false 3#8 0#3 := by
  obtain ⟨-, -, h⟩ := State.readThen_next h
  refine (State.brkSequence_frame h).of_start rfl rfl (fun f hf => flag_setFlag_other _ _ ?_) rfl rfl
  rintro rfl
  simp at hf

/-! ### Every instruction, and every step -/

/-- The 223 opcodes without a micro-program have one meaning: the fault at step 0 (`47_unimplemented.md` R200). -/
theorem exec_of_not_admitted {i : Instr} (h : i.admitted = false) (s : State) : exec i s = unimplemented i.opcode s := by
  cases i <;> cases h <;> rfl

theorem exec_frame {i : Instr} {s t : State} (h : exec i s = .next t) :
    s.Frame t (flagsWritten i) (writesA i) (stackBytes i) (if i = .brk then 0#3 else s.core.brkFlags) := by
  cases hi : i.admitted
  · rw [exec_of_not_admitted hi] at h
    cases h
  · cases i
    case oraImm => exact immediate_frame opOra_writesOnly h
    case andImm => exact immediate_frame opAnd_writesOnly h
    case eorImm => exact immediate_frame opEor_writesOnly h
    case adcImm => exact immediate_frame opAdc_writesOnly h
    case sbcImm => exact immediate_frame opSbc_writesOnly h
    case ldaImm => exact immediate_frame opLda_writesOnly h
    case cmpImm => exact immediate_frame opCmp_writesOnly h
    case oraAbs => exact absoluteRead_frame opOra_writesOnly h
    case andAbs => exact absoluteRead_frame opAnd_writesOnly h
    case eorAbs => exact absoluteRead_frame opEor_writesOnly h
    case adcAbs => exact absoluteRead_frame opAdc_writesOnly h
    case sbcAbs => exact absoluteRead_frame opSbc_writesOnly h
    case ldaAbs => exact absoluteRead_frame opLda_writesOnly h
    case cmpAbs => exact absoluteRead_frame opCmp_writesOnly h
    case sta => exact absoluteWrite_frame h
    case aslAbs => exact absoluteModify_frame asl_writesOnly h
    case rolAbs => exact absoluteModify_frame rol_writesOnly h
    case lsrAbs => exact absoluteModify_frame lsr_writesOnly h
    case rorAbs => exact absoluteModify_frame ror_writesOnly h
    case aslAcc => exact accumulator_frame asl_writesOnly h
    case rolAcc => exact accumulator_frame rol_writesOnly h
    case lsrAcc => exact accumulator_frame lsr_writesOnly h
    case rorAcc => exact accumulator_frame ror_writesOnly h
    case clc => exact impliedFlag_frame h
    case sec => exact impliedFlag_frame h
    case cli => exact impliedFlag_frame h
    case sei => exact impliedFlag_frame h
    case cld => exact impliedFlag_frame h
    case sed => exact impliedFlag_frame h
    case clv => exact impliedFlag_frame h
    case jmp => exact execJmp_frame h
    case jsr => exact execJsr_frame h
    case brk => exact execBrk_frame h
    all_goals cases hi

/-- What a step that answers is: of a live core, a whole instruction, a whole interrupt sequence, or one system cycle. -/
theorem step_next {s t : State} (h : step s = .next t) :
    s.core.fault = none ∧
      ((∃ i, s.nextInstr = some i ∧ exec i s = .next t) ∨
        (s.nextInstr = none ∧ s.interruptNext = true ∧ s.takeInterrupt = .next t) ∨
        (s.nextInstr = none ∧ s.interruptNext = false ∧ s.cycle = .next t)) := by
  unfold step at h
  cases hf : s.core.fault with
  | some f => simp [hf] at h
  | none =>
    refine ⟨rfl, ?_⟩
    cases hn : s.nextInstr with
    | some i => exact .inl ⟨i, rfl, by simpa [hf, hn] using h⟩
    | none =>
      cases hi : s.interruptNext with
      | true => exact .inr (.inl ⟨rfl, rfl, by simpa [hf, hn, hi] using h⟩)
      | false => exact .inr (.inr ⟨rfl, rfl, by simpa [hf, hn, hi] using h⟩)

/-- No instruction has the reserved bit among the flags it writes (`10_state.md` R16). -/
theorem reserved_not_mem_flagsWritten (i : Instr) : Flag.r ∉ flagsWritten i := by
  have h : (flagsWritten i).contains .r = false := by cases i <;> rfl
  simpa using h

/-! ### The obligations -/

/-- Settles O59: the flags of every instruction's frame. -/
theorem flagWritersAreComplete : Obligations.FlagWritersAreComplete :=
  fun _ _ _ h => (exec_frame h).flags

/-- Settles O60: A, S and the pending flags of every instruction's frame. -/
theorem registerWritersAreComplete : Obligations.RegisterWritersAreComplete :=
  fun _ _ _ h => ⟨(exec_frame h).a, (exec_frame h).sp, (exec_frame h).brkFlags⟩

/-- Settles O57: each of the three kinds of step keeps X, Y and the reserved bit. -/
theorem indexRegistersAndBit5NeverChange : Obligations.IndexRegistersAndBit5NeverChange := by
  intro s t h
  obtain ⟨-, ⟨i, -, h⟩ | ⟨-, -, h⟩ | ⟨-, -, h⟩⟩ := step_next h
  · exact ⟨(exec_frame h).x, (exec_frame h).y, (exec_frame h).flags .r (reserved_not_mem_flagsWritten i)⟩
  · have hf := State.takeInterrupt_frame h
    exact ⟨hf.x, hf.y, hf.flags .r (by decide)⟩
  · have hc := State.cycle_next h
    exact ⟨hc.x, hc.y, hc.reserved⟩

end Sys2Proof.Machine
end

section
/-! SUPPORT. Two pin vectors that agree outside the ignored bits: everything the engine reads off them is equal, and what
it drives keeps them so, phase by phase (`10_state.md` R26 to R28). -/

namespace Sys2Proof.Machine

/-- The vectors agree on every bit that has a role (`10_state.md` R27, R28). -/
def SamePins (p q : Pins) : Prop := ∀ k, ¬ ignoredBit k → p.getLsbD k = q.getLsbD k

/-! ### What is read off two such vectors -/

section
variable {p q : Pins} (h : SamePins p q)
include h

theorem SamePins.pin {n : Pin} (hn : ¬ ignoredBit n.bit) : Machine.pin p n = Machine.pin q n := h _ hn

theorem SamePins.getData : Machine.getData p = Machine.getData q :=
  BitVec.eq_of_getLsbD_eq fun k hk => by
    have hrole : ¬ ignoredBit (23 + k) := by simp; omega
    rw [getLsbD_getData, getLsbD_getData, h _ hrole]

/-! ### What is driven on both -/

theorem SamePins.setAddress (a : Word) : SamePins (setAddress p a) (setAddress q a) := fun k hk => by
  rw [getLsbD_setAddress, getLsbD_setAddress, h k hk]

theorem SamePins.setData (d : Byte) : SamePins (setData p d) (setData q d) := fun k hk => by
  rw [getLsbD_setData, getLsbD_setData, h k hk]

theorem SamePins.drive (n : Pin) (level : Bool) : SamePins (drive p n level) (drive q n level) := fun k hk => by
  rw [getLsbD_drive, getLsbD_drive, h k hk]

theorem SamePins.beginRead : SamePins (beginRead p) (beginRead q) := h.drive .rwb true

theorem SamePins.beginWrite : SamePins (beginWrite p) (beginWrite q) := h.drive .rwb false

theorem SamePins.beginFetch (pc : Word) : SamePins (beginFetch p pc) (beginFetch q pc) :=
  (h.setAddress pc).drive .sync true

theorem SamePins.pushVector (c : Core) (v : Byte) (suppressed : Bool) :
    SamePins (pushVector c p v suppressed) (pushVector c q v suppressed) := by
  have hset := (h.setAddress c.stackAddress).setData v
  cases suppressed
  · exact hset.beginWrite
  · exact hset

theorem SamePins.pinsBeforeDispatch : SamePins (pinsBeforeDispatch p) (pinsBeforeDispatch q) :=
  (h.drive .sync false).beginRead

theorem SamePins.assembled (c : Core) : c.assembled p = c.assembled q := by rw [Core.assembled, h.getData, Core.assembled]

/-- Phases 1 to 3 read SYNC, RESB, IRQB, NMIB and the data pins (`40_engine.md` R93 to R98). -/
theorem SamePins.beforeDispatch (c : Core) : c.beforeDispatch p = c.beforeDispatch q := by
  simp only [Core.beforeDispatch, Core.detectReset, Core.detect, Core.latch, h.getData, h.pin (n := .sync) (by decide),
    h.pin (n := .resb) (by decide), h.pin (n := .irqb) (by decide), h.pin (n := .nmib) (by decide)]

end

/-! ### The micro-steps -/

/-- Two micro-step outcomes that differ in ignored bits of the vector alone. -/
inductive SameOutcome : Except EngineFault (Core × Pins) → Except EngineFault (Core × Pins) → Prop
  | error (f : EngineFault) : SameOutcome (.error f) (.error f)
  | ok (c : Core) {p q : Pins} (h : SamePins p q) : SameOutcome (.ok (c, p)) (.ok (c, q))

/-- A micro-step that neither reads nor drives an ignored bit. -/
def MicroStep.Blind (f : MicroStep) : Prop := ∀ c p q, SamePins p q → SameOutcome (f c p) (f c q)

theorem fetchStep_blind : MicroStep.Blind fetchStep := fun c _ _ h => .ok c (h.beginFetch _)

theorem dummyReadStep_blind : MicroStep.Blind dummyReadStep := fun c _ _ h => .ok c (h.setAddress _)

theorem operandStep_blind : MicroStep.Blind operandStep := fun _ _ _ h => .ok _ (h.setAddress _)

theorem operandHighStep_blind : MicroStep.Blind operandHighStep := fun c p q h => by
  rw [operandHighStep, h.getData]
  exact .ok _ (h.setAddress _)

theorem readEffectiveStep_blind : MicroStep.Blind readEffectiveStep := fun c p q h => by
  rw [readEffectiveStep, h.assembled]
  exact .ok _ (h.setAddress _)

theorem storeAccumulatorStep_blind : MicroStep.Blind storeAccumulatorStep := fun c p q h => by
  rw [storeAccumulatorStep, h.assembled]
  exact .ok _ ((h.setAddress _).setData _).beginWrite

theorem executeReadStep_blind (op : ReadOp) : MicroStep.Blind (executeReadStep op) := fun c p q h => by
  unfold executeReadStep
  rw [h.getData]
  cases op c.a c.p (getData q) with
  | none => exact .error _
  | some r => exact .ok _ (h.beginFetch _)

theorem executeFlagStep_blind (f : Flag) (v : Bool) : MicroStep.Blind (executeFlagStep f v) := fun _ _ _ h =>
  .ok _ (h.beginFetch _)

theorem executeAccumulatorStep_blind (op : ShiftOp) : MicroStep.Blind (executeAccumulatorStep op) := fun _ _ _ h =>
  .ok _ (h.beginFetch _)

theorem dummyWriteStep_blind : MicroStep.Blind dummyWriteStep := fun c p q h => by
  rw [dummyWriteStep, h.getData]
  exact .ok _ h.beginWrite

theorem modifyStep_blind (op : ShiftOp) : MicroStep.Blind (modifyStep op) := fun _ _ _ h =>
  .ok _ (h.setData _).beginWrite

theorem jumpStep_blind : MicroStep.Blind jumpStep := fun c p q h => by
  rw [jumpStep, h.assembled]
  exact .ok _ (h.beginFetch _)

theorem peekStackStep_blind : MicroStep.Blind peekStackStep := fun c p q h => by
  rw [peekStackStep, h.getData]
  exact .ok _ (h.setAddress _)

theorem pushStep_blind (byteOf : Word → Byte) : MicroStep.Blind (pushStep byteOf) := fun _ _ _ h =>
  .ok _ (h.pushVector _ _ _)

theorem brkPushHighStep_blind : MicroStep.Blind brkPushHighStep := fun _ _ _ h => .ok _ (h.pushVector _ _ _)

theorem brkPushLowStep_blind : MicroStep.Blind brkPushLowStep := fun _ _ _ h => .ok _ (h.pushVector _ _ _)

theorem brkPushStatusStep_blind : MicroStep.Blind brkPushStatusStep := fun _ _ _ h => .ok _ (h.pushVector _ _ _)

theorem brkVectorLowStep_blind : MicroStep.Blind brkVectorLowStep := fun _ _ _ h => .ok _ (h.setAddress _)

theorem brkVectorHighStep_blind : MicroStep.Blind brkVectorHighStep := fun c p q h => by
  rw [brkVectorHighStep, h.getData]
  exact .ok _ (h.setAddress _)

/-- Every micro-step of every program of the table. -/
theorem programTable_blind : ∀ e ∈ programTable, ∀ f ∈ e.2, MicroStep.Blind f := by
  simp only [programTable, brkProgram, jsrProgram, jmpProgram, immProgram, accProgram, impProgram, absReadProgram,
    absWriteProgram, absModifyProgram, List.forall_mem_cons, fetchStep_blind, dummyReadStep_blind, operandStep_blind,
    operandHighStep_blind, readEffectiveStep_blind, storeAccumulatorStep_blind, executeReadStep_blind,
    executeFlagStep_blind, executeAccumulatorStep_blind, dummyWriteStep_blind, modifyStep_blind, jumpStep_blind,
    peekStackStep_blind, pushStep_blind, brkPushHighStep_blind, brkPushLowStep_blind, brkPushStatusStep_blind,
    brkVectorLowStep_blind, brkVectorHighStep_blind, List.not_mem_nil, false_implies, implies_true, and_self]

/-! ### The tick -/

theorem dispatch_blind : MicroStep.Blind dispatch := by
  intro c p q h
  unfold dispatch
  cases hprog : microProgram c.ir.opcode with
  | none => exact .error _
  | some program =>
    cases hstep : program[c.ir.step.toNat]? with
    | none => simpa [hstep] using SameOutcome.error _
    | some f =>
      have hf := programTable_blind _ (mem_of_lookup hprog) f (List.mem_of_getElem? hstep)
      simpa [hstep] using hf c p q h

/-- Two calls that agree outside the ignored bits: both raise the same, or both return, and then the cores differ in the
snapshot alone, and the snapshots and the vectors in ignored bits alone. -/
inductive SameTick : TickResult → TickResult → Prop
  | raised (f : EngineFault) (c : Core) : SameTick (.raised f c) (.raised f c)
  | returned (c : Core) {prev prev' p q : Pins} (hprev : SamePins prev prev') (h : SamePins p q) :
      SameTick (.returned { c with pinsPrev := prev } p) (.returned { c with pinsPrev := prev' } q)

theorem tickEdge_same (c : Core) {p q : Pins} (h : SamePins p q) : SameTick (tickEdge c p) (tickEdge c q) := by
  simp only [tickEdge, h.beforeDispatch]
  have hd := dispatch_blind (c.beforeDispatch q) _ _ h.pinsBeforeDispatch
  generalize dispatch _ (pinsBeforeDispatch p) = r at hd
  generalize dispatch _ (pinsBeforeDispatch q) = r' at hd
  cases hd with
  | error f => exact .raised f _
  | ok d hpq => exact .returned (d.afterDispatch 0#64) hpq hpq

theorem tick_same (c : Core) {p q : Pins} (h : SamePins p q) : SameTick (tick c p) (tick c q) := by
  have hphi2 : pin p .phi2 = pin q .phi2 := h.pin (by decide)
  unfold tick risingEdge
  rw [hphi2]
  cases c.fault with
  | some f => exact .raised f c
  | none =>
    cases !pin c.pinsPrev .phi2 && pin q .phi2
    · exact .returned { c with fault := none } (fun _ _ => rfl) h
    · exact tickEdge_same c h

/-- An ignored bit lies outside the fields and the pins that the engine drives. -/
theorem passed_of_ignoredBit {k : Nat} (h : ignoredBit k) : k < 6 ∨ 32 ≤ k := by
  simp [ignoredBit] at h
  omega

/-- A call passes the ignored bits on, edge or not (`10_state.md` R27, R28). -/
theorem tick_ignoredBit {c c' : Core} {p p' : Pins} (h : tick c p = .returned c' p') {k : Nat} (hk : ignoredBit k) :
    p'.getLsbD k = p.getLsbD k := by
  unfold tick at h
  split at h
  · cases h
  · split at h
    · exact (tickEdge_returned h).passed k (passed_of_ignoredBit hk)
    · cases h
      rfl

/-- Settles O12: the tick passes the ignored bits on, and two calls that differ there alone are `SameTick`. -/
theorem ignoredPinsAreNeitherReadNorDriven : Obligations.IgnoredPinsAreNeitherReadNorDriven := by
  refine ⟨fun c c' p p' h k hk => tick_ignoredBit h hk, fun c p q h => ?_⟩
  have hs := tick_same c h
  generalize tick c p = r at hs
  generalize tick c q = r' at hs
  cases hs with
  | raised f d => exact ⟨fun _ _ he => he, nofun⟩
  | returned d hprev hpq =>
    refine ⟨nofun, ?_⟩
    rintro _ _ ⟨⟩
    exact ⟨_, _, rfl, rfl, fun k hk => (hprev k hk).symm, fun k hk => (hpq k hk).symm⟩

end Sys2Proof.Machine
end

section
/-! SUPPORT. System cycles in the middle of an instruction: one cycle is the micro-step that IR selects and the host's
service of its bus cycle (`40_engine.md` R100 to R103, `20_memory.md` R57); then the last six cycles of a BRK sequence,
step by step (`60_exceptions.md` R222 to R227). -/

namespace Sys2Proof.Machine

/-! ### One system cycle inside an instruction -/

/-- The vector the next tick's micro-step is given: the host's inputs, SYNC cleared, the default direction. -/
def State.tickPins (s : State) : Pins := pinsBeforeDispatch (presentInputs (drive s.pins .phi2 false) s.nextInputs)

/-- The core the next tick's micro-step is given, inside an instruction: the detectors have sampled the inputs. -/
def State.tickCore (s : State) : Core :=
  Core.detect { s.core with pinsPrev := drive s.core.pinsPrev .phi2 false }
    (presentInputs (drive s.pins .phi2 false) s.nextInputs)

@[simp] theorem State.tickCore_a (s : State) : s.tickCore.a = s.core.a := rfl
@[simp] theorem State.tickCore_s (s : State) : s.tickCore.s = s.core.s := rfl
@[simp] theorem State.tickCore_p (s : State) : s.tickCore.p = s.core.p := rfl
@[simp] theorem State.tickCore_pc (s : State) : s.tickCore.pc = s.core.pc := rfl
@[simp] theorem State.tickCore_ad (s : State) : s.tickCore.ad = s.core.ad := rfl
@[simp] theorem State.tickCore_ir (s : State) : s.tickCore.ir = s.core.ir := rfl
@[simp] theorem State.tickCore_brkFlags (s : State) : s.tickCore.brkFlags = s.core.brkFlags := rfl
@[simp] theorem State.tickCore_fault (s : State) : s.tickCore.fault = s.core.fault := rfl
@[simp] theorem State.tickCore_stackAddress (s : State) : s.tickCore.stackAddress = s.core.stackAddress := rfl

@[simp] theorem State.tickPins_sync (s : State) : pin s.tickPins .sync = false := pinsBeforeDispatch_sync _
@[simp] theorem State.tickPins_rwb (s : State) : pin s.tickPins .rwb = true := pinsBeforeDispatch_rwb _
@[simp] theorem State.getData_tickPins (s : State) : getData s.tickPins = getData s.pins := by
  simp [State.tickPins, pinsBeforeDispatch]

/-- The tick after this state is inside an instruction: the core is alive, SYNC is low, and RESB stays high. -/
structure State.Inside (s : State) : Prop where
  live : s.core.fault = none
  sync : pin s.pins .sync = false
  resb : ∀ i ∈ s.inputs, i.resb = true

theorem State.Inside.nextInputs_resb {s : State} (h : s.Inside) : s.nextInputs.resb = true := by
  unfold State.nextInputs
  cases hi : s.inputs with
  | nil => rfl
  | cons i rest => exact h.resb i (by simp [hi])

/-- A system cycle inside an instruction is the micro-step that IR selects, then the host's service. -/
theorem State.Inside.cycle_eq {s : State} (h : s.Inside) {program : List MicroStep} {f : MicroStep} {c : Core} {p : Pins}
    (hprog : microProgram s.core.ir.opcode = some program) (hf : program[s.core.ir.step.toNat]? = some f)
    (hok : f s.tickCore s.tickPins = .ok (c, p)) :
    s.cycle = ({ s with core := c.afterDispatch p, pins := p, inputs := s.inputs.tail } : State).serve := by
  have hbefore : Core.beforeDispatch { s.core with pinsPrev := drive s.core.pinsPrev .phi2 false }
      (presentInputs (drive s.pins .phi2 false) s.nextInputs) = s.tickCore :=
    Core.beforeDispatch_of_inside (by simp [pin_presentInputs, pin_drive, h.sync])
      (by simp [pin_presentInputs, h.nextInputs_resb])
  have hdispatch : dispatch s.tickCore s.tickPins = .ok (c, p) := by simp [dispatch, hprog, hf, hok]
  rw [State.cycle_of_live h.live, tickEdge, hbefore]
  simp only [State.tickPins] at hdispatch
  simp only [hdispatch]

theorem State.serve_read {s : State} {v : Byte} (hr : pin s.pins .rwb = true)
    (hv : s.readByte (getAddress s.pins) = some v) : s.serve = .next { s with pins := setData s.pins v } := by
  simp [State.serve, hr, State.readThen_of_some hv]

theorem State.serve_write {s : State} (hw : pin s.pins .rwb = false) :
    s.serve = .next (s.writeByte (getAddress s.pins) (getData s.pins)) := by
  simp [State.serve, hw]

theorem State.cycles_succ_of_next {s t : State} (n : Nat) (h : s.cycle = .next t) : s.cycles (n + 1) = t.cycles n := by
  simp [State.cycles, h]

theorem State.writeByte_mem_congr {s t : State} (hmap : s.map = t.map) (hmem : s.mem = t.mem) (a : Word) (v : Byte) :
    (s.writeByte a v).mem = (t.writeByte a v).mem := by
  unfold State.writeByte
  rw [hmap]
  split
  · exact congrArg (fun m : Memory => m.write a.toNat v) hmem
  · exact hmem

@[simp] theorem getAddress_pushVector (c : Core) (p : Pins) (v : Byte) (suppressed : Bool) :
    getAddress (pushVector c p v suppressed) = c.stackAddress := by
  cases suppressed <;> simp [pushVector, setAddressAndData]

@[simp] theorem getData_pushVector (c : Core) (p : Pins) (v : Byte) (suppressed : Bool) :
    getData (pushVector c p v suppressed) = v := by
  cases suppressed <;> simp [pushVector, setAddressAndData]

@[simp] theorem rwb_pushVector (c : Core) (p : Pins) (v : Byte) (suppressed : Bool) :
    pin (pushVector c p v suppressed) .rwb = (suppressed && pin p .rwb) := by
  cases suppressed <;> simp [pushVector, setAddressAndData]

/-! ### A BRK sequence, cycle by cycle -/

/-- The registers a BRK sequence works on are those of `d`. -/
structure Core.SameRegisters (c d : Core) : Prop where
  a : c.a = d.a
  s : c.s = d.s
  p : c.p = d.p
  pc : c.pc = d.pc
  ad : c.ad = d.ad
  brkFlags : c.brkFlags = d.brkFlags

/-- `s` is about to run step `k` of a BRK sequence, with the registers and the memory of `u`: `u` is what the instruction
level has computed by then, without the pins. -/
structure State.BrkAt (k : BitVec 3) (u s : State) : Prop where
  inside : s.Inside
  ir : s.core.ir = ⟨0x00#8, k⟩
  registers : s.core.SameRegisters u.core
  mem : s.mem = u.mem
  map : s.map = u.map

/-- What a push of the BRK sequence leaves: a stored byte, or for a reset a discarded read (`60_exceptions.md` R222). -/
def State.afterPush (reset : Bool) (v : Byte) (s : State) : State :=
  if reset then { s with core := { s.core with s := s.core.s - 1#8 } } else s.push v

@[simp] theorem State.afterPush_core (reset : Bool) (v : Byte) (s : State) :
    (s.afterPush reset v).core = { s.core with s := s.core.s - 1#8 } := (State.pushed reset v s).core

@[simp] theorem State.afterPush_map (reset : Bool) (v : Byte) (s : State) : (s.afterPush reset v).map = s.map :=
  (State.pushed reset v s).map

/-- `afterPush` is the state that the instruction level's push goes on with. -/
theorem State.pushOrRead_eq_afterPush {s : State} (reset : Bool) (v : Byte) (k : State → Result)
    (h : reset = true → s.Mapped s.core.stackAddress) : s.pushOrRead reset v k = k (s.afterPush reset v) :=
  State.pushOrRead_eq reset v k h

section
variable {k : BitVec 3} {u s : State} {f : MicroStep} {c : Core} {p : Pins} (h : State.BrkAt k u s)
include h

theorem State.BrkAt.readByte (a : Word) : s.readByte a = u.readByte a := State.readByte_congr h.map h.mem a

theorem State.BrkAt.stackAddress : s.core.stackAddress = u.core.stackAddress := by
  rw [Core.stackAddress, h.registers.s, Core.stackAddress]

variable (hf : brkProgram[k.toNat]? = some f) (hok : f s.tickCore s.tickPins = .ok (c, p))
include hf hok

theorem State.BrkAt.cycle_eq :
    s.cycle = ({ s with core := c.afterDispatch p, pins := p, inputs := s.inputs.tail } : State).serve :=
  h.inside.cycle_eq (program := brkProgram) (by rw [h.ir]; rfl) (by rw [h.ir]; exact hf) hok

/-- Every step but the last leads to the next one. -/
theorem State.BrkAt.next {t v : State} (hk : k.toNat < 6) (hcore : t.core = c.afterDispatch p)
    (hsync : pin t.pins .sync = pin p .sync) (hinputs : t.inputs = s.inputs.tail) (hregs : c.SameRegisters v.core)
    (hmem : t.mem = v.mem) (hmap : t.map = v.map) : State.BrkAt (k + 1#3) v t := by
  have hlast : decide (k.toNat + 1 = brkProgram.length) = false := by simp [brkProgram]; omega
  have hm := brkProgram_keeps.get hf _ _ _ _ hok
  rw [hlast] at hm
  refine ⟨⟨?_, ?_, fun i hi => ?_⟩, ?_, ?_, hmem, hmap⟩
  · rw [hcore, Core.afterDispatch_fault, hm.fault, State.tickCore_fault, h.inside.live]
  · rw [hsync, hm.quiet rfl, State.tickPins_sync]
  · exact h.inside.resb i (List.mem_of_mem_tail (hinputs ▸ hi))
  · rw [hcore, Core.afterDispatch_ir, hm.ir, State.tickCore_ir, h.ir]
  · rw [hcore]
    exact ⟨hregs.a, hregs.s, hregs.p, hregs.pc, hregs.ad, hregs.brkFlags⟩

/-- A step whose bus cycle is a read. -/
theorem State.BrkAt.read {v : State} {d : Byte} (hk : k.toNat < 6) (hr : pin p .rwb = true)
    (hd : u.readByte (getAddress p) = some d) (hregs : c.SameRegisters v.core) (hmem : u.mem = v.mem)
    (hmap : u.map = v.map) : ∃ t, s.cycle = .next t ∧ State.BrkAt (k + 1#3) v t ∧ getData t.pins = d := by
  have hd' : s.readByte (getAddress p) = some d := (h.readByte _).trans hd
  rw [h.cycle_eq hf hok]
  exact ⟨_, State.serve_read hr hd',
    h.next hf hok hk rfl (pin_setData _ _ _) rfl hregs (h.mem.trans hmem) (h.map.trans hmap), getData_setData _ _⟩

omit hok in
/-- A step that pushes; `v` is `u` with the registers other than S as the step leaves them. -/
theorem State.BrkAt.push {v : State} {reset r : Bool} {d b : Byte} (hk : k.toNat < 6)
    (hok : f s.tickCore s.tickPins = .ok (c, pushVector s.tickCore s.tickPins b r)) (hd : b = d) (hreset : r = reset)
    (hmapped : reset = true → u.Mapped u.core.stackAddress) (hregs : c.SameRegisters (v.afterPush reset d).core)
    (hsp : u.core.s = v.core.s) (hmem : u.mem = v.mem) (hmap : u.map = v.map) :
    ∃ t, s.cycle = .next t ∧ State.BrkAt (k + 1#3) (v.afterPush reset d) t := by
  subst hd hreset
  have hstack : s.core.stackAddress = v.core.stackAddress := by
    rw [h.stackAddress, Core.stackAddress, hsp, Core.stackAddress]
  cases r with
  | true =>
    have hread := State.readByte_of_mapped (hmapped rfl)
    obtain ⟨t, ht, hb, -⟩ := h.read (v := v.afterPush true b) hf hok hk (by simp) (by simpa [h.stackAddress] using hread)
      hregs hmem hmap
    exact ⟨t, ht, hb⟩
  | false =>
    rw [h.cycle_eq hf hok, State.serve_write (by simp)]
    refine ⟨_, rfl, h.next hf hok hk (State.writeByte_core _ _ _) (by simp) (State.writeByte_inputs _ _ _) hregs ?_ ?_⟩
    · rw [getAddress_pushVector, getData_pushVector, State.tickCore_stackAddress, hstack]
      show _ = (v.writeByte v.core.stackAddress b).mem
      exact State.writeByte_mem_congr (by exact h.map.trans hmap) (by exact h.mem.trans hmem) _ _
    · simpa using h.map.trans hmap

end

/-! ### The seven steps -/

/-- After step 1, at the instruction level: PC as `returnAddress` makes it, and its high byte pushed (R222). -/
def State.afterPushHigh (u : State) : State :=
  let ret := returnAddress u.core.brkFlags u.core.pc
  ({ u with core := { u.core with pc := ret } } : State).afterPush (resetPending u.core.brkFlags) (hi ret)

/-- After step 2: the low byte pushed (R223). -/
def State.afterPushLow (u : State) : State := u.afterPush (resetPending u.core.brkFlags) (lo u.core.pc)

/-- After step 3: the status pushed, AD at the vector (R224). -/
def State.afterPushStatus (u : State) : State :=
  ({ u with core := { u.core with ad := vectorFor u.core.brkFlags } } : State).afterPush (resetPending u.core.brkFlags)
    (pushedStatus u.core.p)

theorem Core.stackAddress_eq (c : Core) : c.stackAddress = stackSlot c.s := rfl

@[simp] theorem State.afterPushHigh_core (u : State) :
    u.afterPushHigh.core =
      { u.core with pc := returnAddress u.core.brkFlags u.core.pc, s := u.core.s - 1#8 } := by
  simp [State.afterPushHigh]

@[simp] theorem State.afterPushLow_core (u : State) : u.afterPushLow.core = { u.core with s := u.core.s - 1#8 } := by
  simp [State.afterPushLow]

@[simp] theorem State.afterPushStatus_core (u : State) :
    u.afterPushStatus.core = { u.core with ad := vectorFor u.core.brkFlags, s := u.core.s - 1#8 } := by
  simp [State.afterPushStatus]

@[simp] theorem State.afterPushHigh_map (u : State) : u.afterPushHigh.map = u.map := by simp [State.afterPushHigh]
@[simp] theorem State.afterPushLow_map (u : State) : u.afterPushLow.map = u.map := by simp [State.afterPushLow]
@[simp] theorem State.afterPushStatus_map (u : State) : u.afterPushStatus.map = u.map := by simp [State.afterPushStatus]

@[simp] theorem lo_setWidth (v : Byte) : lo (v.setWidth 16) = v := by
  simp [lo]

section
variable {u s : State}

/-- Step 0 (R221). -/
theorem State.BrkAt.dummyRead {v : Byte} (h : State.BrkAt 0#3 u s) (hv : u.readByte u.core.pc = some v) :
    ∃ t, s.cycle = .next t ∧ State.BrkAt 1#3 u t := by
  have hr := h.registers
  obtain ⟨t, ht, hb, -⟩ := h.read (v := u) rfl rfl (by decide) (by simp) (by simpa [hr.pc] using hv)
    ⟨hr.a, hr.s, hr.p, hr.pc, hr.ad, hr.brkFlags⟩ rfl rfl
  exact ⟨t, ht, hb⟩

theorem State.BrkAt.pushHigh (h : State.BrkAt 1#3 u s)
    (hm : resetPending u.core.brkFlags = true → u.Mapped u.core.stackAddress) :
    ∃ t, s.cycle = .next t ∧ State.BrkAt 2#3 u.afterPushHigh t := by
  have hr := h.registers
  exact h.push rfl (by decide) rfl (by simp [hr.pc, hr.brkFlags]) (by simp [hr.brkFlags]) hm
    (by constructor <;> simp [hr.a, hr.s, hr.p, hr.pc, hr.ad, hr.brkFlags]) rfl rfl rfl

theorem State.BrkAt.pushLow (h : State.BrkAt 2#3 u s)
    (hm : resetPending u.core.brkFlags = true → u.Mapped u.core.stackAddress) :
    ∃ t, s.cycle = .next t ∧ State.BrkAt 3#3 u.afterPushLow t := by
  have hr := h.registers
  exact h.push rfl (by decide) rfl (by simp [hr.pc]) (by simp [hr.brkFlags]) hm
    (by constructor <;> simp [hr.a, hr.s, hr.p, hr.pc, hr.ad, hr.brkFlags]) rfl rfl rfl

theorem State.BrkAt.pushStatus (h : State.BrkAt 3#3 u s)
    (hm : resetPending u.core.brkFlags = true → u.Mapped u.core.stackAddress) :
    ∃ t, s.cycle = .next t ∧ State.BrkAt 4#3 u.afterPushStatus t := by
  have hr := h.registers
  exact h.push rfl (by decide) rfl (by simp [hr.p]) (by simp [hr.brkFlags]) hm
    (by constructor <;> simp [hr.a, hr.s, hr.p, hr.pc, hr.brkFlags]) rfl rfl rfl

/-- Step 4 (R225): I and B are set, the pending flags are cleared. -/
theorem State.BrkAt.vectorLow {l : Byte} (h : State.BrkAt 4#3 u s) (hl : u.readByte u.core.ad = some l) :
    ∃ t, s.cycle = .next t ∧ getData t.pins = l ∧
      State.BrkAt 5#3 { u with core := { u.core with
        ad := u.core.ad + 1#16, p := maskedStatus u.core.p, brkFlags := 0#3 } } t := by
  have hr := h.registers
  obtain ⟨t, ht, hb, hd⟩ := h.read (v := { u with core := { u.core with
      ad := u.core.ad + 1#16, p := maskedStatus u.core.p, brkFlags := 0#3 } }) rfl rfl (by decide) (by simp)
    (by simpa [hr.ad] using hl) (by constructor <;> simp [hr.a, hr.s, hr.p, hr.pc, hr.ad]) rfl rfl
  exact ⟨t, ht, hd, hb⟩

/-- Step 5 (R226). -/
theorem State.BrkAt.vectorHigh {l b : Byte} (h : State.BrkAt 5#3 u s) (hl : getData s.pins = l)
    (hb : u.readByte u.core.ad = some b) :
    ∃ t, s.cycle = .next t ∧ getData t.pins = b ∧
      State.BrkAt 6#3 { u with core := { u.core with ad := l.setWidth 16 } } t := by
  have hr := h.registers
  obtain ⟨t, ht, hb, hd⟩ := h.read (v := { u with core := { u.core with ad := l.setWidth 16 } }) rfl rfl (by decide)
    (by simp) (by simpa [hr.ad] using hb) (by constructor <;> simp [hr.a, hr.s, hr.p, hr.pc, hl, hr.brkFlags]) rfl rfl
  exact ⟨t, ht, hd, hb⟩

/-- Step 6 (R227): the next instruction's fetch is queued at the vector's content. -/
theorem State.BrkAt.jump {b : Byte} (h : State.BrkAt 6#3 u s) (hb : getData s.pins = b)
    (hm : u.Mapped (join b (lo u.core.ad))) :
    ∃ t, s.cycle = .next t ∧ t.StartsAt (join b (lo u.core.ad)) ∧
      t.core.SameRegisters { u.core with pc := join b (lo u.core.ad) } ∧ t.mem = u.mem ∧ t.map = u.map := by
  have hr := h.registers
  have hpc : s.tickCore.assembled s.tickPins = join b (lo u.core.ad) := by simp [Core.assembled, hb, hr.ad]
  have hok : jumpStep s.tickCore s.tickPins = .ok ({ s.tickCore with pc := join b (lo u.core.ad) },
      beginFetch s.tickPins (join b (lo u.core.ad))) := by rw [jumpStep, hpc]
  have hv : s.readByte (join b (lo u.core.ad)) = some _ := (h.readByte _).trans (State.readByte_of_mapped hm)
  rw [h.cycle_eq rfl hok]
  refine ⟨_, State.serve_read (by simp) (by rw [getAddress_beginFetch]; exact hv), ⟨rfl, by simp, by simp, by simp, ?_⟩,
    ⟨hr.a, hr.s, hr.p, rfl, hr.ad, hr.brkFlags⟩, h.mem, h.map⟩
  rw [getData_setData]
  exact hv

/-- The stack locations a sequence uses when it starts with this value of S. -/
abbrev brkSlots (sp : Byte) : List Word := [stackSlot sp, stackSlot (sp - 1#8), stackSlot (sp - 2#8)]

/-- At the instruction level, after the three pushes. -/
def State.afterPushes (u : State) : State := u.afterPushHigh.afterPushLow.afterPushStatus

@[simp] theorem State.afterPushes_core (u : State) :
    u.afterPushes.core = { u.core with
      pc := returnAddress u.core.brkFlags u.core.pc, ad := vectorFor u.core.brkFlags, s := u.core.s - 3#8 } := by
  simp [State.afterPushes, BitVec.sub_sub]

@[simp] theorem State.afterPushes_map (u : State) : u.afterPushes.map = u.map := by simp [State.afterPushes]

/-- Steps 1 to 6 as a whole: the pushes, then a fetch queued at the content of the vector. -/
theorem State.BrkAt.run {l b : Byte} (h : State.BrkAt 1#3 u s)
    (hslots : resetPending u.core.brkFlags = true → ∀ a ∈ brkSlots u.core.s, u.Mapped a)
    (hl : u.afterPushes.readByte (vectorFor u.core.brkFlags) = some l)
    (hb : u.afterPushes.readByte (vectorFor u.core.brkFlags + 1#16) = some b) (hm : u.Mapped (join b l)) :
    ∃ t, s.cycles 6 = .next t ∧ t.StartsAt (join b l) ∧
      t.core.SameRegisters { u.core with
        s := u.core.s - 3#8, p := maskedStatus u.core.p, pc := join b l, ad := l.setWidth 16, brkFlags := 0#3 } ∧
      t.mem = u.afterPushes.mem ∧ t.map = u.map := by
  have hmapped : resetPending u.core.brkFlags = true → u.Mapped (stackSlot u.core.s) ∧
      u.Mapped (stackSlot (u.core.s - 1#8)) ∧ u.Mapped (stackSlot (u.core.s - 2#8)) := by
    simpa using hslots
  obtain ⟨s2, e2, h2⟩ := h.pushHigh fun hr => (hmapped hr).1
  obtain ⟨s3, e3, h3⟩ := h2.pushLow fun hr => by
    rw [State.afterPushHigh_core] at hr
    simpa [State.Mapped, Core.stackAddress_eq] using (hmapped hr).2.1
  obtain ⟨s4, e4, h4⟩ := h3.pushStatus fun hr => by
    rw [State.afterPushLow_core, State.afterPushHigh_core] at hr
    simpa [State.Mapped, Core.stackAddress_eq, BitVec.sub_sub] using (hmapped hr).2.2
  have had : u.afterPushes.core.ad = vectorFor u.core.brkFlags := by simp
  obtain ⟨s5, e5, d5, h5⟩ := State.BrkAt.vectorLow (u := u.afterPushes) h4 (had ▸ hl)
  obtain ⟨s6, e6, d6, h6⟩ := h5.vectorHigh d5 (b := b) (had ▸ hb)
  obtain ⟨t, e7, hstarts, hregs, hmem, hmap⟩ := h6.jump d6 (by simpa [State.Mapped] using hm)
  have hrun : s.cycles 6 = .next t := by
    rw [State.cycles_succ_of_next 5 e2, State.cycles_succ_of_next 4 e3, State.cycles_succ_of_next 3 e4,
      State.cycles_succ_of_next 2 e5, State.cycles_succ_of_next 1 e6, State.cycles_succ_of_next 0 e7, State.cycles]
  exact ⟨t, hrun, by simpa using hstarts, by simpa using hregs, hmem, by simpa using hmap⟩

end

/-! ### What the pushes store -/

theorem stackSlot_eq_join (sp : Byte) : stackSlot sp = join 0x01#8 sp := rfl

theorem stackSlot_injective : Function.Injective stackSlot := fun a b h => by
  simpa [stackSlot_eq_join] using congrArg lo h

theorem stackSlot_ne_sub {k : Byte} (hk : k ≠ 0#8) (sp : Byte) : stackSlot sp ≠ stackSlot (sp - k) := fun h =>
  hk (by simpa using (stackSlot_injective h).symm)

/-- Every stack location is in page 1. -/
theorem ne_stackSlot {a : Word} (h : hi a ≠ 0x01#8) (sp : Byte) : a ≠ stackSlot sp := by
  rintro rfl
  simp [stackSlot_eq_join] at h

theorem State.readByte_afterPush_other {s : State} {b : Word} (reset : Bool) (v : Byte) (h : b ≠ stackSlot s.core.s) :
    (s.afterPush reset v).readByte b = s.readByte b := by
  cases reset with
  | true => rfl
  | false => exact State.readByte_push_other s v h

theorem State.readByte_afterPush_same {s : State} {reset : Bool} (v : Byte) (hreset : reset = false)
    (h : s.Writable (stackSlot s.core.s)) (hwf : s.mem.wf = true) :
    (s.afterPush reset v).readByte (stackSlot s.core.s) = some v := by
  subst hreset
  exact State.readByte_push_same v h hwf

section
variable {u : State}

theorem State.readByte_afterPushHigh_other {b : Word} (h : b ≠ stackSlot u.core.s) :
    u.afterPushHigh.readByte b = u.readByte b := State.readByte_afterPush_other _ _ h

theorem State.readByte_afterPushLow_other {b : Word} (h : b ≠ stackSlot u.core.s) :
    u.afterPushLow.readByte b = u.readByte b := State.readByte_afterPush_other _ _ h

theorem State.readByte_afterPushStatus_other {b : Word} (h : b ≠ stackSlot u.core.s) :
    u.afterPushStatus.readByte b = u.readByte b := State.readByte_afterPush_other _ _ h

section
variable (hreset : resetPending u.core.brkFlags = false) (hw : u.Writable (stackSlot u.core.s)) (hwf : u.mem.wf = true)
include hreset hw hwf

theorem State.readByte_afterPushHigh_slot :
    u.afterPushHigh.readByte (stackSlot u.core.s) = some (hi (returnAddress u.core.brkFlags u.core.pc)) :=
  State.readByte_afterPush_same _ hreset hw hwf

theorem State.readByte_afterPushLow_slot : u.afterPushLow.readByte (stackSlot u.core.s) = some (lo u.core.pc) :=
  State.readByte_afterPush_same _ hreset hw hwf

theorem State.readByte_afterPushStatus_slot :
    u.afterPushStatus.readByte (stackSlot u.core.s) = some (pushedStatus u.core.p) :=
  State.readByte_afterPush_same _ hreset hw hwf

end

/-- The pushes leave every address outside the three stack locations alone. -/
theorem State.readByte_afterPushes_other {b : Word} (h : b ∉ brkSlots u.core.s) :
    u.afterPushes.readByte b = u.readByte b := by
  simp only [List.mem_cons, List.not_mem_nil, or_false, not_or] at h
  obtain ⟨h1, h2, h3⟩ := h
  calc u.afterPushes.readByte b
      _ = u.afterPushHigh.afterPushLow.readByte b :=
        State.readByte_afterPushStatus_other (by simpa [BitVec.sub_sub] using h3)
      _ = u.afterPushHigh.readByte b := State.readByte_afterPushLow_other (by simpa using h2)
      _ = u.readByte b := State.readByte_afterPushHigh_other h1

/-- On RAM, and with no reset pending, the stack holds the return address and the status (R222 to R224). -/
theorem State.readByte_afterPushes_slots (hwf : u.mem.wf = true) (hreset : resetPending u.core.brkFlags = false)
    (hslots : ∀ a ∈ brkSlots u.core.s, u.Writable a) :
    u.afterPushes.readByte (stackSlot u.core.s) = some (hi (returnAddress u.core.brkFlags u.core.pc)) ∧
      u.afterPushes.readByte (stackSlot (u.core.s - 1#8)) = some (lo (returnAddress u.core.brkFlags u.core.pc)) ∧
      u.afterPushes.readByte (stackSlot (u.core.s - 2#8)) = some (pushedStatus u.core.p) := by
  simp only [List.mem_cons, List.not_mem_nil, or_false, forall_eq_or_imp, forall_eq] at hslots
  obtain ⟨hw1, hw2, hw3⟩ := hslots
  have hwf1 : u.afterPushHigh.mem.wf = true := (State.pushed _ _ _).wf hwf
  have hwf2 : u.afterPushHigh.afterPushLow.mem.wf = true := (State.pushed _ _ _).wf hwf1
  have r1 := State.readByte_afterPushHigh_slot hreset hw1 hwf
  have r2 := State.readByte_afterPushLow_slot (u := u.afterPushHigh) (by simpa using hreset)
    (by simpa [State.Writable] using hw2) hwf1
  have r3 := State.readByte_afterPushStatus_slot (u := u.afterPushHigh.afterPushLow) (by simpa using hreset)
    (by simpa [State.Writable, BitVec.sub_sub] using hw3) hwf2
  simp only [State.afterPushHigh_core, State.afterPushLow_core, BitVec.sub_sub, BitVec.reduceAdd] at r2 r3
  have hlow : stackSlot u.core.s ≠ stackSlot u.afterPushHigh.core.s := by
    simpa using stackSlot_ne_sub (k := 1#8) (by decide) u.core.s
  have hstatus : stackSlot u.core.s ≠ stackSlot u.afterPushHigh.afterPushLow.core.s := by
    simpa [BitVec.sub_sub] using stackSlot_ne_sub (k := 2#8) (by decide) u.core.s
  have hstatus' : stackSlot (u.core.s - 1#8) ≠ stackSlot u.afterPushHigh.afterPushLow.core.s := by
    simpa using stackSlot_ne_sub (k := 1#8) (by decide) (u.core.s - 1#8)
  exact ⟨((State.readByte_afterPushStatus_other hstatus).trans (State.readByte_afterPushLow_other hlow)).trans r1,
    (State.readByte_afterPushStatus_other hstatus').trans r2, r3⟩

end

/-! ### Power-up -/

/-- Settles O54: reset by evaluation; at power-up IR is BRK's step 0 and SYNC is low, so nothing but memory is open. -/
theorem invariantHoldsAtStart : Obligations.InvariantHoldsAtStart := by
  have hsync : ¬ pin 0#64 .sync = true := by decide
  have hstep : 0 < programLength 0x00#8 ∧ (0#3).toNat ≤ programLength 0x00#8 ∧
      (pin 0#64 .sync = true ↔ (0#3).toNat = programLength 0x00#8) := by decide
  exact ⟨by decide, fun _ _ _ _ _ hmem => ⟨hmem, rfl, hstep, fun h => absurd h hsync⟩⟩

/-- Power-up stands at step 0 of a BRK sequence: IR is 0, nothing is pending, and the pins are all low. -/
theorem State.powerUp_brkAt (sp : Byte) (ad : Word) (mem : Memory) (map : List Region) :
    State.BrkAt 0#3 (State.powerUp sp ad mem map []) (State.powerUp sp ad mem map []) where
  inside := ⟨rfl, show pin 0#64 .sync = false by decide, nofun⟩
  ir := rfl
  registers := ⟨rfl, rfl, rfl, rfl, rfl, rfl⟩
  mem := rfl
  map := rfl

/-- No stack location is in the vectors' page. -/
theorem not_mem_brkSlots {a : Word} (h : hi a = 0xFF#8) (sp : Byte) : a ∉ brkSlots sp := by
  have hpage : hi a ≠ 0x01#8 := by
    rw [h]
    decide
  simp [ne_stackSlot hpage]

/-- Settles O52: the cycles of a BRK sequence with nothing pending, from the power-up registers. -/
theorem powerUpWithoutReset : Obligations.PowerUpWithoutReset := by
  rintro sp ad mem map l h s hs hwf h0 hw1 hw2 hw3 hl hh hm
  have hat : State.BrkAt 0#3 s s := hs ▸ State.powerUp_brkAt sp ad mem map
  have hsp : s.core.s = sp := by rw [hs]; rfl
  have hp : s.core.p = 0x02#8 := by rw [hs]; rfl
  have hpc : s.core.pc = 0x0000#16 := by rw [hs]; rfl
  have hflags : s.core.brkFlags = 0#3 := by rw [hs]; rfl
  have hmem : s.mem.wf = true := by rw [hs]; exact hwf
  have hreset : resetPending s.core.brkFlags = false := by rw [hflags]; decide
  have hvector : vectorFor s.core.brkFlags = 0xFFFE#16 := by rw [hflags]; decide
  obtain ⟨s1, e1, h1⟩ := hat.dummyRead (State.readByte_of_mapped (hpc ▸ h0))
  obtain ⟨t, e, hstarts, hregs, hmem', hmap'⟩ := h1.run (l := l) (b := h) (by simp [hreset])
    (by rw [hvector, State.readByte_afterPushes_other (not_mem_brkSlots (by decide) _)]; exact hl)
    (by rw [hvector, State.readByte_afterPushes_other (not_mem_brkSlots (by decide) _)]; exact hh) hm
  obtain ⟨r1, r2, r3⟩ := State.readByte_afterPushes_slots hmem hreset (by simpa [hsp] using And.intro hw1 ⟨hw2, hw3⟩)
  have hread : ∀ a, t.readByte a = s.afterPushes.readByte a :=
    State.readByte_congr (hmap'.trans (State.afterPushes_map _).symm) hmem'
  rw [hsp, hpc, hflags] at r1 r2
  rw [hsp, hp] at r3
  exact ⟨t, (State.cycles_succ_of_next 6 e1).trans e, hstarts, (hread _).trans r1, (hread _).trans r2,
    (hread _).trans r3, hsp ▸ hregs.s, hregs.p.trans (by rw [hp]; rfl)⟩

end Sys2Proof.Machine
end

section
/-! SUPPORT. The operand forms: what the encoding, the micro-program and the meaning of each admitted instruction are, said
once for every constructor (`30_encoding.md` R70, R77; `40_engine.md` R105 to R110). A fact about every instruction is then
a fact about the nine forms. -/

namespace Sys2Proof.Machine

/-- An opcode, operand bytes, a micro-program and an instruction-level meaning that belong to one operand form. -/
inductive OperandForm : Byte → List Byte → List MicroStep → (State → Result) → Prop
  | immediate (opcode : Byte) (op : ReadOp) (v : Byte) :
      OperandForm opcode [v] (immProgram op) (immediate opcode op v)
  | absoluteRead (opcode : Byte) (op : ReadOp) (addr : Word) :
      OperandForm opcode [lo addr, hi addr] (absReadProgram op) (absoluteRead opcode op addr)
  | absoluteWrite (opcode : Byte) (addr : Word) :
      OperandForm opcode [lo addr, hi addr] absWriteProgram fun s => absoluteWrite opcode s.core.a addr s
  | absoluteModify (opcode : Byte) (op : ShiftOp) (hop : op.WritesOnly [.c, .z, .n]) (addr : Word) :
      OperandForm opcode [lo addr, hi addr] (absModifyProgram op) (absoluteModify opcode op addr)
  | accumulator (opcode : Byte) (op : ShiftOp) : OperandForm opcode [] (accProgram op) (accumulator opcode op)
  | implied (opcode : Byte) (f : Flag) (value : Bool) :
      OperandForm opcode [] (impProgram f value) (impliedFlag opcode f value)
  | jump (addr : Word) : OperandForm 0x4C#8 [lo addr, hi addr] jmpProgram (execJmp addr)
  | call (addr : Word) : OperandForm 0x20#8 [lo addr, hi addr] jsrProgram (execJsr addr)
  | brk : OperandForm 0x00#8 [] brkProgram execBrk

/-- The instruction is one of an operand form, under its own opcode. -/
abbrev HasForm (i : Instr) (operands : List Byte) (program : List MicroStep) : Prop :=
  encode i = i.opcode :: operands ∧ microProgram i.opcode = some program ∧
    OperandForm i.opcode operands program (exec i)

theorem hasForm_of_admitted {i : Instr} (h : i.admitted = true) : ∃ operands program, HasForm i operands program := by
  cases i
  case oraImm v => exact ⟨[v], immProgram opOra, rfl, rfl, .immediate _ opOra v⟩
  case andImm v => exact ⟨[v], immProgram opAnd, rfl, rfl, .immediate _ opAnd v⟩
  case eorImm v => exact ⟨[v], immProgram opEor, rfl, rfl, .immediate _ opEor v⟩
  case adcImm v => exact ⟨[v], immProgram opAdc, rfl, rfl, .immediate _ opAdc v⟩
  case sbcImm v => exact ⟨[v], immProgram opSbc, rfl, rfl, .immediate _ opSbc v⟩
  case ldaImm v => exact ⟨[v], immProgram opLda, rfl, rfl, .immediate _ opLda v⟩
  case cmpImm v => exact ⟨[v], immProgram opCmp, rfl, rfl, .immediate _ opCmp v⟩
  case oraAbs a => exact ⟨[lo a, hi a], absReadProgram opOra, rfl, rfl, .absoluteRead _ opOra a⟩
  case andAbs a => exact ⟨[lo a, hi a], absReadProgram opAnd, rfl, rfl, .absoluteRead _ opAnd a⟩
  case eorAbs a => exact ⟨[lo a, hi a], absReadProgram opEor, rfl, rfl, .absoluteRead _ opEor a⟩
  case adcAbs a => exact ⟨[lo a, hi a], absReadProgram opAdc, rfl, rfl, .absoluteRead _ opAdc a⟩
  case sbcAbs a => exact ⟨[lo a, hi a], absReadProgram opSbc, rfl, rfl, .absoluteRead _ opSbc a⟩
  case ldaAbs a => exact ⟨[lo a, hi a], absReadProgram opLda, rfl, rfl, .absoluteRead _ opLda a⟩
  case cmpAbs a => exact ⟨[lo a, hi a], absReadProgram opCmp, rfl, rfl, .absoluteRead _ opCmp a⟩
  case sta a => exact ⟨[lo a, hi a], absWriteProgram, rfl, rfl, .absoluteWrite _ a⟩
  case aslAbs a => exact ⟨[lo a, hi a], absModifyProgram asl, rfl, rfl, .absoluteModify _ asl asl_writesOnly a⟩
  case rolAbs a => exact ⟨[lo a, hi a], absModifyProgram rol, rfl, rfl, .absoluteModify _ rol rol_writesOnly a⟩
  case lsrAbs a => exact ⟨[lo a, hi a], absModifyProgram lsr, rfl, rfl, .absoluteModify _ lsr lsr_writesOnly a⟩
  case rorAbs a => exact ⟨[lo a, hi a], absModifyProgram ror, rfl, rfl, .absoluteModify _ ror ror_writesOnly a⟩
  case aslAcc => exact ⟨[], accProgram asl, rfl, rfl, .accumulator _ asl⟩
  case rolAcc => exact ⟨[], accProgram rol, rfl, rfl, .accumulator _ rol⟩
  case lsrAcc => exact ⟨[], accProgram lsr, rfl, rfl, .accumulator _ lsr⟩
  case rorAcc => exact ⟨[], accProgram ror, rfl, rfl, .accumulator _ ror⟩
  case clc => exact ⟨[], impProgram .c false, rfl, rfl, .implied _ .c false⟩
  case sec => exact ⟨[], impProgram .c true, rfl, rfl, .implied _ .c true⟩
  case cli => exact ⟨[], impProgram .i false, rfl, rfl, .implied _ .i false⟩
  case sei => exact ⟨[], impProgram .i true, rfl, rfl, .implied _ .i true⟩
  case cld => exact ⟨[], impProgram .d false, rfl, rfl, .implied _ .d false⟩
  case sed => exact ⟨[], impProgram .d true, rfl, rfl, .implied _ .d true⟩
  case clv => exact ⟨[], impProgram .v false, rfl, rfl, .implied _ .v false⟩
  case jmp a => exact ⟨[lo a, hi a], jmpProgram, rfl, rfl, .jump a⟩
  case jsr a => exact ⟨[lo a, hi a], jsrProgram, rfl, rfl, .call a⟩
  case brk => exact ⟨[], brkProgram, rfl, rfl, .brk⟩
  all_goals cases h

/-- The ticks of an admitted instruction are the declared length of its program. -/
theorem ticks_of_program {i : Instr} {program : List MicroStep} (h : microProgram i.opcode = some program) :
    ticks i = program.length := by
  simp [ticks, h]

theorem programLength_of_program {opcode : Byte} {program : List MicroStep} (h : microProgram opcode = some program) :
    programLength opcode = program.length := by
  simp [programLength, h]

/-- An instruction that answers is admitted (`47_unimplemented.md` R200). -/
theorem admitted_of_exec_next {i : Instr} {s t : State} (h : exec i s = .next t) : i.admitted = true := by
  cases hi : i.admitted
  · rw [exec_of_not_admitted hi] at h
    cases h
  · rfl

end Sys2Proof.Machine
end

section
/-! SUPPORT. What every instruction, every interrupt sequence and every step leaves behind: the invariant, and every byte
that is not RAM (`20_memory.md` R49, R58; `40_engine.md` R100, R101). -/

namespace Sys2Proof.Machine

/-! ### What an instruction or an interrupt sequence leaves behind -/

/-- A sequence that first runs to a state with the same X, Y, fault mark, map and memory. -/
theorem State.Done.of_start {s u t : State} {opcode : Byte} {len : BitVec 3} (h : u.Done t opcode len)
    (hx : u.core.x = s.core.x) (hy : u.core.y = s.core.y) (hfault : u.core.fault = s.core.fault) (hmap : u.map = s.map)
    (hmem : u.mem = s.mem) : s.Done t opcode len where
  x := h.x.trans hx
  y := h.y.trans hy
  fault := h.fault.trans hfault
  map := h.map.trans hmap
  ir := h.ir
  starts := h.starts
  wf hw := h.wf (hmem ▸ hw)
  rom b hb := (h.rom b (by simpa [hmap] using hb)).trans (State.readByte_congr hmap hmem b)

theorem execBrk_done {s t : State} (h : execBrk s = .next t) : s.Done t 0x00#8 7#3 := by
  obtain ⟨-, -, h⟩ := State.readThen_next h
  exact (State.brkSequence_next h).1.of_start rfl rfl rfl rfl rfl

theorem State.takeInterrupt_done {s t : State} (h : s.takeInterrupt = .next t) : s.Done t 0x00#8 7#3 := by
  obtain ⟨-, -, h⟩ := State.readThen_next h
  exact (State.brkSequence_next h).1.of_start rfl rfl rfl rfl rfl

/-- What runs whole leaves its opcode and its declared length in IR. -/
theorem OperandForm.done {opcode : Byte} {operands : List Byte} {program : List MicroStep} {meaning : State → Result}
    (hform : OperandForm opcode operands program meaning) {s t : State} (h : meaning s = .next t) :
    s.Done t opcode (BitVec.ofNat 3 program.length) := by
  cases hform with
  | immediate => exact (immediate_next h).1
  | absoluteRead => exact (absoluteRead_next h).1
  | absoluteWrite => exact (absoluteWrite_next h).1
  | absoluteModify => exact (absoluteModify_next h).1
  | accumulator => exact (accumulator_next h).1
  | implied => exact (impliedFlag_next h).1
  | jump => exact (execJmp_next h).1
  | call => exact (execJsr_next h).1
  | brk => exact execBrk_done h

theorem exec_done {i : Instr} {s t : State} (h : exec i s = .next t) : s.Done t i.opcode (BitVec.ofNat 3 (ticks i)) := by
  obtain ⟨_, program, -, hprog, hform⟩ := hasForm_of_admitted (admitted_of_exec_next h)
  rw [ticks_of_program hprog]
  exact hform.done h

/-! ### The invariant -/

/-- What runs whole ends at a boundary: IR at the declared length, SYNC high, an instruction at PC. -/
theorem State.Done.inv {s t : State} {opcode : Byte} {len : BitVec 3} (hd : s.Done t opcode len) (hs : s.Inv)
    (hpos : 0 < len.toNat) (hlen : programLength opcode = len.toNat) : t.Inv := by
  obtain ⟨hwf, hlive, -, -⟩ := hs
  obtain ⟨-, hsync, -⟩ := hd.starts
  have hstep : t.InStep := by
    rw [State.InStep, hd.ir, hlen]
    exact ⟨hpos, Nat.le_refl _, iff_of_true hsync rfl⟩
  exact ⟨hd.wf hwf, hd.fault.trans hlive, hstep, fun _ => hd.starts⟩

/-- A declared length is positive and fits the step counter. -/
theorem toNat_ofNat_length {opcode : Byte} {program : List MicroStep} (h : microProgram opcode = some program) :
    (BitVec.ofNat 3 program.length).toNat = program.length ∧ 0 < program.length := by
  have hmem := mem_of_lookup h
  have h7 : program.length ≤ 7 := programTable_length _ hmem
  refine ⟨?_, ?_⟩
  · rw [BitVec.toNat_ofNat]
    exact Nat.mod_eq_of_lt (by omega)
  · cases program with
    | nil => exact (programTable_keeps _ hmem).elim
    | cons f rest => exact Nat.succ_pos _

theorem exec_inv {i : Instr} {s t : State} (hs : s.Inv) (h : exec i s = .next t) : t.Inv := by
  obtain ⟨_, program, -, hprog, hform⟩ := hasForm_of_admitted (admitted_of_exec_next h)
  obtain ⟨hnat, hpos⟩ := toNat_ofNat_length hprog
  exact (hform.done h).inv hs (hnat.symm ▸ hpos) ((programLength_of_program hprog).trans hnat.symm)

/-- Settles O55: each of the three kinds of step keeps the invariant. -/
theorem invariantKeptByStep : Obligations.InvariantKeptByStep := by
  intro s t hs h
  obtain ⟨-, ⟨i, -, h⟩ | ⟨-, -, h⟩ | ⟨-, -, h⟩⟩ := step_next h
  · exact exec_inv hs h
  · exact (State.takeInterrupt_done h).inv hs (by decide) (by decide)
  · obtain ⟨hwf, -⟩ := hs
    have hc := State.cycle_next h
    exact ⟨hc.wf hwf, hc.fault, hc.inStep, hc.starts⟩

/-! ### Read-only memory -/

/-- Settles O58: each of the three kinds of step keeps the map and every byte that is not RAM. -/
theorem romNeverChanges : Obligations.RomNeverChanges := by
  intro s t h
  obtain ⟨-, ⟨i, -, h⟩ | ⟨-, -, h⟩ | ⟨-, -, h⟩⟩ := step_next h
  · exact ⟨(exec_done h).map, (exec_done h).rom⟩
  · exact ⟨(State.takeInterrupt_done h).map, (State.takeInterrupt_done h).rom⟩
  · exact ⟨(State.cycle_next h).map, (State.cycle_next h).rom⟩

end Sys2Proof.Machine
end

section
/-! SUPPORT. The codec of the pin vector and the fetch cycle (`20_memory.md` R49, R50), and where a read of an unmapped
address ends the run (`20_memory.md` R57, R58, R62). -/

namespace Sys2Proof.Machine

/-- Settles O5: the round trips and the frame of each field. -/
theorem pinCodecLaws : Obligations.PinCodecLaws := fun p a d =>
  ⟨getAddress_setAddress p a, getData_setData p d, getData_setAddress p a, getAddress_setData p d,
    fun k hk => by rw [getLsbD_setAddress, if_neg (by omega)], fun k hk => by rw [getLsbD_setData, if_neg (by omega)]⟩

/-- Settles O6: a call that returned at a rising edge is an engine tick, whose facts say what a fetch cycle is. -/
theorem everyFetchIsAReadAtPc : Obligations.EveryFetchIsAReadAtPc := by
  refine ⟨fun p pc => rfl, fun c c' p p' h0 h1 h hsync => ?_⟩
  cases hf : c.fault with
  | some f => simp [tick, hf] at h
  | none =>
    rw [tick_of_edge hf h0 h1] at h
    exact (tickEdge_returned h).fetch hsync

/-! ### Unmapped addresses -/

theorem absoluteRead_unmapped {addr : Word} {s : State} (h : s.readByte addr = none) (opcode : Byte) (op : ReadOp) :
    absoluteRead opcode op addr s = .fault (.unmappedRead addr) :=
  State.readThen_of_none (by simpa using h) _

theorem absoluteModify_unmapped {addr : Word} {s : State} (h : s.readByte addr = none) (opcode : Byte) (op : ShiftOp) :
    absoluteModify opcode op addr s = .fault (.unmappedRead addr) :=
  State.readThen_of_none (by simpa using h) _

theorem execJmp_unmapped {addr : Word} {s : State} (h : s.readByte addr = none) :
    execJmp addr s = .fault (.unmappedRead addr) :=
  State.fetchNext_of_none _ _ _ ((State.instrTicks_readByte 3 s addr).trans h)

section
variable {s : State} (h : s.readByte (s.core.pc + 1#16) = none)
include h

theorem accumulator_unmapped (opcode : Byte) (op : ShiftOp) :
    accumulator opcode op s = .fault (.unmappedRead (s.core.pc + 1#16)) := by
  rw [accumulator, State.byteAddress, State.instrTicks_pc, State.readThen_of_none (by simpa using h)]

theorem impliedFlag_unmapped (opcode : Byte) (f : Flag) (value : Bool) :
    impliedFlag opcode f value s = .fault (.unmappedRead (s.core.pc + 1#16)) := by
  rw [impliedFlag, State.byteAddress, State.instrTicks_pc, State.readThen_of_none (by simpa using h)]

theorem execBrk_unmapped : execBrk s = .fault (.unmappedRead (s.core.pc + 1#16)) := State.readThen_of_none h _

end

theorem execJsr_unmapped {s : State} (h : s.readByte (stackSlot s.core.s) = none) (addr : Word) :
    execJsr addr s = .fault (.unmappedRead (stackSlot s.core.s)) := by
  rw [execJsr, Core.stackAddress_eq, State.instrTicks_s, State.readThen_of_none (by simpa using h)]

/-- Settles O36: the first read of each operand form that the map may leave unanswered. -/
theorem unmappedReadsEndTheRun : Obligations.UnmappedReadsEndTheRun := by
  intro addr s
  refine ⟨fun h => ?_, fun h => ?_, fun h => execJsr_unmapped h addr⟩
  · have hread := absoluteRead_unmapped h
    have hmodify := absoluteModify_unmapped h
    simp only [List.forall_mem_cons]
    exact ⟨hread _ opLda, hread _ opOra, hread _ opAnd, hread _ opEor, hread _ opAdc, hread _ opSbc, hread _ opCmp,
      hmodify _ asl, hmodify _ rol, hmodify _ lsr, hmodify _ ror, execJmp_unmapped h, nofun⟩
  · have hacc := accumulator_unmapped h
    have hflag := impliedFlag_unmapped h
    simp only [List.forall_mem_cons]
    exact ⟨hacc _ asl, hacc _ rol, hacc _ lsr, hacc _ ror, hflag _ .c _, hflag _ .c _, hflag _ .i _, hflag _ .i _,
      hflag _ .v _, hflag _ .d _, hflag _ .d _, execBrk_unmapped h, nofun⟩

end Sys2Proof.Machine
end

section
/-! SUPPORT. From ticks to instructions: a relation between a state in the middle of an instruction and what the
instruction level has computed by then, one rule for each kind of bus cycle that carries it from tick to tick, and one for
each micro-step (`40_engine.md` R100 to R104, R113; `20_memory.md` R57). -/

namespace Sys2Proof.Machine

/-! ### One system cycle -/

/-- The core the next tick's micro-step is given: phases 1 to 3 have run. -/
def State.dispatchCore (s : State) : Core :=
  Core.beforeDispatch { s.core with pinsPrev := drive s.core.pinsPrev .phi2 false }
    (presentInputs (drive s.pins .phi2 false) s.nextInputs)

theorem State.dispatchCore_facts (s : State) :
    BeforeFacts { s.core with pinsPrev := drive s.core.pinsPrev .phi2 false }
      (presentInputs (drive s.pins .phi2 false) s.nextInputs) s.dispatchCore :=
  Core.beforeDispatch_facts _ _

theorem State.dispatchCore_of_inside {s : State} (hsync : pin s.pins .sync = false)
    (hresb : s.nextInputs.resb = true) : s.dispatchCore = s.tickCore :=
  Core.beforeDispatch_of_inside (by simp [pin_presentInputs, pin_drive, hsync]) (by simp [pin_presentInputs, hresb])

theorem State.cycle_of_ok {s : State} {c : Core} {p : Pins} (hlive : s.core.fault = none)
    (hok : dispatch s.dispatchCore s.tickPins = .ok (c, p)) :
    s.cycle = ({ s with core := c.afterDispatch p, pins := p, inputs := s.inputs.tail } : State).serve := by
  simp only [State.dispatchCore, State.tickPins] at hok
  simp [State.cycle_of_live hlive, tickEdge, hok]

theorem State.cycle_of_error {s : State} {f : EngineFault} (hlive : s.core.fault = none)
    (herror : dispatch s.dispatchCore s.tickPins = .error f) : s.cycle = .fault (.engine f) := by
  simp only [State.dispatchCore, State.tickPins] at herror
  simp [State.cycle_of_live hlive, tickEdge, herror]

theorem State.cycles_one (s : State) : s.cycles 1 = s.cycle := by
  rw [State.cycles]
  cases s.cycle <;> rfl

theorem State.cycles_succ_of_fault {s : State} {f : Fault} (n : Nat) (h : s.cycle = .fault f) :
    s.cycles (n + 1) = .fault f := by
  simp [State.cycles, h]

theorem State.resbHigh_succ {s : State} {n : Nat} (h : s.resbHigh (n + 1) = true) :
    s.nextInputs.resb = true ∧ ∀ t : State, t.inputs = s.inputs.tail → t.resbHigh n = true := by
  simp only [State.resbHigh, State.nextInputs] at h ⊢
  cases hi : s.inputs with
  | nil => exact ⟨rfl, fun t ht => by simp [ht]⟩
  | cons i rest =>
    simp only [hi, List.take_succ_cons, List.all_cons, Bool.and_eq_true] at h
    exact ⟨h.1, fun t ht => by simpa [ht] using h.2⟩

/-! ### The lines: what a tick does beside its micro-step -/

/-- The two states agree on the pipelines, the sampled NMIB, the coming inputs, and every pin that no micro-step drives. -/
structure State.SameLines (s t : State) : Prop where
  irqPip : s.core.irqPip = t.core.irqPip
  nmiPip : s.core.nmiPip = t.core.nmiPip
  nmib : pin s.core.pinsPrev .nmib = pin t.core.pinsPrev .nmib
  inputs : s.inputs = t.inputs
  passed : ∀ k, k < 6 ∨ 32 ≤ k → s.pins.getLsbD k = t.pins.getLsbD k

theorem State.SameLines.refl (s : State) : s.SameLines s := ⟨rfl, rfl, rfl, rfl, fun _ _ => rfl⟩

theorem State.SameLines.trans {s t u : State} (h : s.SameLines t) (h' : t.SameLines u) : s.SameLines u where
  irqPip := h.irqPip.trans h'.irqPip
  nmiPip := h.nmiPip.trans h'.nmiPip
  nmib := h.nmib.trans h'.nmib
  inputs := h.inputs.trans h'.inputs
  passed k hk := (h.passed k hk).trans (h'.passed k hk)

theorem State.SameLines.writeByte (s : State) (a : Word) (v : Byte) : s.SameLines (s.writeByte a v) := by
  constructor <;> simp

theorem State.SameLines.passTick {s t : State} (h : s.SameLines t) (hi : flag s.core.p .i = flag t.core.p .i)
    (sync : Bool) : (s.passTick sync).SameLines (t.passTick sync) := by
  have hnext : s.nextInputs = t.nextInputs := by rw [State.nextInputs, h.inputs, State.nextInputs]
  refine ⟨?_, ?_, ?_, by simp [h.inputs], fun k hk => ?_⟩
  · simp [State.passTick, hnext, hi, h.irqPip]
  · simp [State.passTick, hnext, h.nmib, h.nmiPip]
  · simp [State.passTick, hnext]
  · simp [hnext, presentInputs, getLsbD_drive, h.passed k hk]

theorem State.SameLines.passTicks {s t : State} (h : s.SameLines t) (hi : flag s.core.p .i = flag t.core.p .i) (n : Nat) :
    (s.passTicks n).SameLines (t.passTicks n) := by
  induction n generalizing s t with
  | zero => exact h
  | succ n ih => exact ih (h.passTick hi false) hi

theorem presentInputs_drive_phi2 (p : Pins) (l : Bool) (i : Inputs) :
    presentInputs (drive p .phi2 l) i = presentInputs p i := pins_ext fun k => by
  by_cases h : k = Pin.phi2.bit <;> simp [presentInputs, getLsbD_drive, h]

/-- Whatever the micro-step, a tick leaves the lines as `passTick` says. -/
theorem State.sameLines_passTick {s t : State} {c : Core} {p : Pins} {last : Bool}
    (hm : MicroFacts last s.dispatchCore s.tickPins c p) (hcore : t.core = c.afterDispatch p)
    (hinputs : t.inputs = s.inputs.tail) (hpins : ∀ k, k < 6 ∨ 32 ≤ k → t.pins.getLsbD k = p.getLsbD k) :
    t.SameLines (s.passTick s.fetchQueued) := by
  have hb := s.dispatchCore_facts
  have hpassed : ∀ k, k < 6 ∨ 32 ≤ k → p.getLsbD k = (presentInputs s.pins s.nextInputs).getLsbD k := fun k hk => by
    rw [hm.passed k hk, State.tickPins, pinsBeforeDispatch_passed _ _ hk, presentInputs_drive_phi2]
  refine ⟨?_, ?_, ?_, by simpa using hinputs, fun k hk => (hpins k hk).trans (hpassed k hk)⟩
  · rw [hcore, Core.afterDispatch_irqPip, hm.irqPip, hb.irqPip]
    cases hs : pin s.pins .sync <;> simp [tickIrqPip, State.passTick, State.fetchQueued, pin_presentInputs, pin_drive, hs]
  · rw [hcore, Core.afterDispatch_nmiPip, hm.nmiPip, hb.nmiPip]
    cases hs : pin s.pins .sync <;> simp [tickNmiPip, State.passTick, State.fetchQueued, pin_presentInputs, pin_drive, hs]
  · rw [hcore, Core.afterDispatch_pinsPrev]
    refine (hpassed Pin.nmib.bit (by decide)).trans ?_
    show pin (presentInputs s.pins s.nextInputs) .nmib = _
    simp [State.passTick, pin_presentInputs]

/-- The state `n` ticks ahead of `s`, the next of which may be a SYNC tick, as `passTick` counts them. -/
def State.ahead (s : State) : Nat → State
  | 0 => s
  | n + 1 => (s.passTick s.fetchQueued).passTicks n

theorem State.ahead_of_inside {s : State} (h : pin s.pins .sync = false) (n : Nat) : s.ahead n = s.passTicks n := by
  cases n with
  | zero => rfl
  | succ n => simp [State.ahead, State.fetchQueued, h, State.passTicks]

theorem State.ahead_of_sync {s : State} (h : pin s.pins .sync = true) (n : Nat) :
    s.ahead (n + 1) = s.instrTicks (n + 1) := by
  simp [State.ahead, State.fetchQueued, h, State.instrTicks]

/-! ### The relation -/

/-- `s` is about to run step `k` of `opcode`, with RESB high for `m` ticks. `u` is what the instruction level has computed
by then: the registers but PC and AD, which are `pc` and `ad`, the memory, and the lines `n` ticks ahead, since an
instruction-level meaning lets its ticks pass before it does anything else. -/
structure State.Runs (m n : Nat) (opcode : Byte) (k : BitVec 3) (pc ad : Word) (u s : State) : Prop where
  live : s.core.fault = none
  resb : s.resbHigh m = true
  inside : k ≠ 0#3 → pin s.pins .sync = false
  core : s.dispatchCore =
    { u.core with
      ir := ⟨opcode, k⟩, pc := pc, ad := ad, irqPip := s.dispatchCore.irqPip, nmiPip := s.dispatchCore.nmiPip,
      pinsPrev := s.dispatchCore.pinsPrev }
  mem : s.mem = u.mem
  map : s.map = u.map
  lines : (s.ahead n).SameLines u

/-- Step `k` of the program of `opcode` is `f`; `last` says that it is the final one. -/
abbrev StepAt (opcode : Byte) (k : BitVec 3) (f : MicroStep) (last : Bool) : Prop :=
  ∃ program, microProgram opcode = some program ∧ program[k.toNat]? = some f ∧
    decide (k.toNat + 1 = program.length) = last

theorem StepAt.keeps {opcode : Byte} {k : BitVec 3} {f : MicroStep} {last : Bool} (h : StepAt opcode k f last) :
    MicroStep.Keeps last f := by
  obtain ⟨program, hprog, hf, rfl⟩ := h
  exact (programTable_keeps _ (mem_of_lookup hprog)).get hf

section
variable {m n : Nat} {opcode : Byte} {k : BitVec 3} {pc ad : Word} {u s : State} {f : MicroStep} {last : Bool}
  (h : State.Runs m n opcode k pc ad u s)
include h

theorem State.Runs.core_ir : s.dispatchCore.ir = ⟨opcode, k⟩ := by rw [h.core]
theorem State.Runs.core_a : s.dispatchCore.a = u.core.a := by rw [h.core]
theorem State.Runs.core_s : s.dispatchCore.s = u.core.s := by rw [h.core]
theorem State.Runs.core_p : s.dispatchCore.p = u.core.p := by rw [h.core]
theorem State.Runs.core_pc : s.dispatchCore.pc = pc := by rw [h.core]
theorem State.Runs.core_ad : s.dispatchCore.ad = ad := by rw [h.core]
theorem State.Runs.core_brkFlags : s.dispatchCore.brkFlags = u.core.brkFlags := by rw [h.core]
theorem State.Runs.core_stackAddress : s.dispatchCore.stackAddress = u.core.stackAddress := by
  rw [Core.stackAddress, h.core_s, Core.stackAddress]

theorem State.Runs.readByte (a : Word) : s.readByte a = u.readByte a := State.readByte_congr h.map h.mem a

/-- The detectors sampled I as the instruction level has it. -/
theorem State.Runs.flagI : flag s.core.p .i = flag u.core.p .i := by
  rw [← h.core_p, s.dispatchCore_facts.flags .i (by decide)]

theorem State.Runs.dispatch_eq (hstep : StepAt opcode k f last) :
    dispatch s.dispatchCore s.tickPins = f s.dispatchCore s.tickPins := by
  obtain ⟨program, hprog, hf, -⟩ := hstep
  simp [dispatch, h.core_ir, hprog, hf]

theorem State.Runs.cycle_of_ok (hstep : StepAt opcode k f last) {c : Core} {q : Pins}
    (hok : f s.dispatchCore s.tickPins = .ok (c, q)) :
    s.cycle = ({ s with core := c.afterDispatch q, pins := q, inputs := s.inputs.tail } : State).serve :=
  State.cycle_of_ok h.live ((h.dispatch_eq hstep).trans hok)

/-- A micro-step that faults ends the run there (R112). -/
theorem State.Runs.fault (hstep : StepAt opcode k f last) {e : EngineFault}
    (herror : f s.dispatchCore s.tickPins = .error e) (j : Nat) : s.cycles (j + 1) = .fault (.engine e) :=
  State.cycles_succ_of_fault j (State.cycle_of_error h.live ((h.dispatch_eq hstep).trans herror))

end

/-- When the ticks counted so far have all run, the instruction level may let `j` more pass. -/
theorem State.Runs.catchUp {m : Nat} {opcode : Byte} {k : BitVec 3} {pc ad : Word} {u s : State}
    (h : State.Runs m 0 opcode k pc ad u s) (hk : k ≠ 0#3) (j : Nat) :
    State.Runs m j opcode k pc ad (u.passTicks j) s := by
  have hu := u.passTicks_same j
  refine ⟨h.live, h.resb, h.inside, ?_, h.mem.trans hu.mem.symm, h.map.trans hu.map.symm, ?_⟩
  · simp only [hu.a, hu.x, hu.y, hu.sp, hu.p, hu.brkFlags, hu.fault]
    exact h.core
  · rw [State.ahead_of_inside (h.inside hk)]
    exact h.lines.passTicks h.flagI j

/-! ### A bus cycle that is not the last -/

/-- The instruction level's state with the registers that a step in the middle of an instruction may write. -/
abbrev State.withRegisters (u : State) (sp p : Byte) (flags : BitVec 3) : State :=
  { u with core := { u.core with s := sp, p := p, brkFlags := flags } }

theorem State.SameLines.withRegisters (u : State) (sp p : Byte) (flags : BitVec 3) :
    u.SameLines (u.withRegisters sp p flags) := ⟨rfl, rfl, rfl, rfl, fun _ _ => rfl⟩

section
variable {m n : Nat} {opcode : Byte} {k : BitVec 3} {pc ad pc' ad' : Word} {sp p' : Byte} {flags : BitVec 3} {u s : State}
  {f : MicroStep} {q : Pins} (h : State.Runs (m + 2) (n + 1) opcode k pc ad u s) (hstep : StepAt opcode k f false)
  (hok : f s.dispatchCore s.tickPins =
    .ok ({ s.dispatchCore with s := sp, p := p', brkFlags := flags, pc := pc', ad := ad' }, q))
  (hi : n = 0 ∨ flag p' .i = flag u.core.p .i)
include h hstep hok hi

/-- Any step but the last leads to the next one; `t` is the state that the host has served, `v` the instruction level's. -/
theorem State.Runs.next {t v : State}
    (hcore : t.core = Core.afterDispatch
      { s.dispatchCore with s := sp, p := p', brkFlags := flags, pc := pc', ad := ad' } q)
    (hinputs : t.inputs = s.inputs.tail) (hsync : pin t.pins .sync = pin q .sync)
    (hpins : ∀ j, j < 6 ∨ 32 ≤ j → t.pins.getLsbD j = q.getLsbD j) (hmem : t.mem = v.mem) (hmap : t.map = v.map)
    (hv : v.core = (u.withRegisters sp p' flags).core) (hlines : u.SameLines v) :
    State.Runs (m + 1) n opcode (k + 1#3) pc' ad' v t := by
  have hm := hstep.keeps _ _ _ _ hok
  have hlow : pin t.pins .sync = false := by rw [hsync, hm.quiet rfl, State.tickPins_sync]
  have hresb := (State.resbHigh_succ h.resb).2 t hinputs
  have htick : t.dispatchCore = t.tickCore := State.dispatchCore_of_inside hlow (State.resbHigh_succ hresb).1
  have hlive : t.core.fault = none := by
    rw [hcore, Core.afterDispatch_fault, hm.fault, s.dispatchCore_facts.fault]
    exact h.live
  refine ⟨hlive, hresb, fun _ => hlow, ?_, hmem, hmap, ?_⟩
  · rw [htick, State.tickCore, hcore, h.core, hv]
    rfl
  · have ht := State.sameLines_passTick hm hcore hinputs hpins
    rw [State.ahead_of_inside hlow]
    rcases hi with rfl | hi
    · exact (ht.trans h.lines).trans hlines
    · have hflag : flag t.core.p .i = flag s.core.p .i := by
        rw [hcore, h.flagI]
        exact hi
      exact ((ht.passTicks hflag n).trans h.lines).trans hlines

/-- A step whose bus cycle is a read, as the instruction level says it. -/
theorem State.Runs.readCycle {a : Word} {K : Byte → Result} (hr : pin q .rwb = true) (ha : getAddress q = a)
    (hnext : ∀ t b, u.readByte a = some b → getData t.pins = b → getAddress t.pins = a →
      State.Runs (m + 1) n opcode (k + 1#3) pc' ad' (u.withRegisters sp p' flags) t → t.cycles (m + 1) = K b) :
    s.cycles (m + 2) = u.readThen a K := by
  subst ha
  have hcycle := h.cycle_of_ok hstep hok
  have hread : ∀ c i, ({ s with core := c, pins := q, inputs := i } : State).readByte (getAddress q) =
      u.readByte (getAddress q) := fun _ _ => h.readByte _
  cases hb : u.readByte (getAddress q) with
  | none =>
    rw [State.readThen_of_none hb]
    exact State.cycles_succ_of_fault _
      (by rw [hcycle, State.serve, if_pos hr, State.readThen_of_none ((hread _ _).trans hb)])
  | some b =>
    rw [State.readThen_of_some hb,
      State.cycles_succ_of_next _ (hcycle.trans (State.serve_read hr ((hread _ _).trans hb)))]
    exact hnext _ _ hb (getData_setData _ _) (getAddress_setData _ _) (h.next hstep hok hi rfl rfl
      (pin_setData _ _ _) (fun j hj => passed_setData _ _ _ hj) h.mem h.map rfl (.withRegisters u sp p' flags))

/-- A step whose bus cycle is a write. -/
theorem State.Runs.writeCycle {a : Word} {b : Byte} {r : Result} (hw : pin q .rwb = false) (ha : getAddress q = a)
    (hb : getData q = b)
    (hnext : ∀ t, getData t.pins = b → getAddress t.pins = a →
      State.Runs (m + 1) n opcode (k + 1#3) pc' ad' ((u.withRegisters sp p' flags).writeByte a b) t →
      t.cycles (m + 1) = r) :
    s.cycles (m + 2) = r := by
  subst ha hb
  rw [State.cycles_succ_of_next _ ((h.cycle_of_ok hstep hok).trans (State.serve_write hw))]
  exact hnext _ (by simp) (by simp) (h.next hstep hok hi (State.writeByte_core _ _ _) (State.writeByte_inputs _ _ _)
    (by simp) (fun _ _ => by simp) (by exact State.writeByte_mem_congr (by exact h.map) (by exact h.mem) _ _)
    (by simpa using h.map) (State.writeByte_core _ _ _)
    ((State.SameLines.withRegisters u sp p' flags).trans (.writeByte _ _ _)))

end

/-! ### The last bus cycle -/

theorem passed_beginRead (p : Pins) (k : Nat) (h : k < 6 ∨ 32 ≤ k) : (beginRead p).getLsbD k = p.getLsbD k := by
  rw [beginRead_eq_drive, getLsbD_drive, if_neg (by simp [Pin.bit]; omega)]

/-- A pin vector is its two fields, SYNC, RWB, and the pins that no micro-step drives. -/
theorem pins_ext_fields {p q : Pins} (passed : ∀ k, k < 6 ∨ 32 ≤ k → p.getLsbD k = q.getLsbD k)
    (address : getAddress p = getAddress q) (data : getData p = getData q) (sync : pin p .sync = pin q .sync)
    (rwb : pin p .rwb = pin q .rwb) : p = q := by
  refine pins_ext fun k => ?_
  by_cases hp : k < 6 ∨ 32 ≤ k
  · exact passed k hp
  by_cases ha : 7 ≤ k ∧ k ≤ 22
  · obtain ⟨j, rfl⟩ := Nat.exists_eq_add_of_le ha.1
    have hj : (getAddress p).getLsbD j = (getAddress q).getLsbD j := by rw [address]
    rw [getLsbD_getAddress, getLsbD_getAddress] at hj
    simpa [show j < 16 by omega] using hj
  by_cases hd : 23 ≤ k ∧ k ≤ 30
  · obtain ⟨j, rfl⟩ := Nat.exists_eq_add_of_le hd.1
    have hj : (getData p).getLsbD j = (getData q).getLsbD j := by rw [data]
    rw [getLsbD_getData, getLsbD_getData] at hj
    simpa [show j < 8 by omega] using hj
  obtain rfl | rfl : k = 6 ∨ k = 31 := by omega
  · exact sync
  · exact rwb

/-- The final step queues the fetch, as the instruction level says it. -/
theorem State.Runs.fetch {opcode : Byte} {k : BitVec 3} {pc ad pc' : Word} {a p bus : Byte} {u s : State} {f : MicroStep}
    (h : State.Runs 1 1 opcode k pc ad u s) (hstep : StepAt opcode k f true)
    (hok : f s.dispatchCore s.tickPins =
      .ok ({ s.dispatchCore with a := a, p := p, pc := pc' }, beginFetch s.tickPins pc'))
    (hbus : getData s.pins = bus) :
    s.cycles 1 =
      ({ u with core := { u.core with a := a, p := p, pc := pc', ad := ad } } : State).fetchNext opcode (k + 1#3) bus := by
  have hm := hstep.keeps _ _ _ _ hok
  have hl : State.SameLines { s with
      core := Core.afterDispatch { s.dispatchCore with a := a, p := p, pc := pc' } (beginFetch s.tickPins pc'),
      pins := beginFetch s.tickPins pc', inputs := s.inputs.tail } u :=
    (State.sameLines_passTick hm rfl rfl fun _ _ => rfl).trans h.lines
  have hirq : agePip s.dispatchCore.irqPip = u.core.irqPip := hl.irqPip
  have hnmi : agePip s.dispatchCore.nmiPip = u.core.nmiPip := hl.nmiPip
  have hinputs : s.inputs.tail = u.inputs := hl.inputs
  have hpins : beginFetch s.tickPins pc' = beginFetch (beginRead (setData u.pins bus)) pc' := by
    refine pins_ext_fields (fun j hj => (hl.passed j hj).trans ?_) (by simp) (by simpa using hbus) (by simp) (by simp)
    rw [passed_beginFetch _ _ _ hj, passed_beginRead _ _ hj, passed_setData _ _ _ hj]
  have hcore : Core.afterDispatch { s.dispatchCore with a := a, p := p, pc := pc' } (beginFetch s.tickPins pc') =
      { u.core with
        a := a, p := p, pc := pc', ad := ad, ir := ⟨opcode, k + 1#3⟩,
        pinsPrev := beginFetch (beginRead (setData u.pins bus)) pc' } := by
    simp only [← hirq, ← hnmi, ← hpins]
    rw [h.core]
    rfl
  rw [State.cycles_one, h.cycle_of_ok hstep hok, hcore, hpins, h.mem, h.map, hinputs]
  rfl

end Sys2Proof.Machine
end

section
/-! SUPPORT. One rule per micro-step: what its cycle does at the instruction level (`40_engine.md` R104 to R110; `45_jump.md`
R170, R171; `60_exceptions.md` R221 to R227). -/

namespace Sys2Proof.Machine

@[simp] theorem State.getAddress_tickPins (s : State) : getAddress s.tickPins = getAddress s.pins := by
  simp [State.tickPins, pinsBeforeDispatch]

theorem State.byteAddress_succ (s : State) (j : Word) : s.byteAddress j + 1#16 = s.byteAddress (j + 1#16) :=
  BitVec.add_assoc _ _ _

/-! ### Reads -/

section
variable {m n : Nat} {opcode : Byte} {k : BitVec 3} {pc ad : Word} {u s : State}

/-- A read step that writes PC and AD alone. -/
theorem State.Runs.readStep {pc' ad' a : Word} {f : MicroStep} (h : State.Runs (m + 2) (n + 1) opcode k pc ad u s)
    (hstep : StepAt opcode k f false)
    (hok : f s.dispatchCore s.tickPins =
      .ok ({ s.dispatchCore with pc := pc', ad := ad' }, setAddress s.tickPins a)) {K : Byte → Result}
    (hnext : ∀ t b, u.readByte a = some b → getData t.pins = b → getAddress t.pins = a →
      State.Runs (m + 1) n opcode (k + 1#3) pc' ad' u t → t.cycles (m + 1) = K b) :
    s.cycles (m + 2) = u.readThen a K := by
  have hok' : f s.dispatchCore s.tickPins =
      .ok ({ s.dispatchCore with s := u.core.s, p := u.core.p, brkFlags := u.core.brkFlags, pc := pc', ad := ad' },
        setAddress s.tickPins a) := by
    rw [hok, ← h.core_s, ← h.core_p, ← h.core_brkFlags]
  exact h.readCycle hstep hok' (.inr rfl) (by simp) (by simp) hnext

/-- `SA(PC)`, the byte discarded. -/
theorem State.Runs.dummyRead (h : State.Runs (m + 2) (n + 1) opcode k pc ad u s)
    (hstep : StepAt opcode k dummyReadStep false) {K : Byte → Result}
    (hnext : ∀ t b, getData t.pins = b → State.Runs (m + 1) n opcode (k + 1#3) pc ad u t → t.cycles (m + 1) = K b) :
    s.cycles (m + 2) = u.readThen pc K := by
  obtain rfl := h.core_pc
  obtain rfl := h.core_ad
  exact h.readStep hstep rfl fun t b _ hd _ => hnext t b hd

/-- `SA(PC++)`, at an operand byte that is known. -/
theorem State.Runs.operand {j : Word} (h : State.Runs (m + 2) (n + 1) opcode k (u.byteAddress j) ad u s)
    (hstep : StepAt opcode k operandStep false) {b : Byte} (hb : u.readByte (u.byteAddress j) = some b) {r : Result}
    (hnext : ∀ t, getData t.pins = b → State.Runs (m + 1) n opcode (k + 1#3) (u.byteAddress (j + 1#16)) ad u t →
      t.cycles (m + 1) = r) :
    s.cycles (m + 2) = r := by
  rw [← u.byteAddress_succ, ← h.core_pc, ← h.core_ad] at hnext
  rw [← h.core_pc] at hb
  rw [← State.readThen_of_some hb fun _ => r]
  refine h.readStep hstep rfl fun t b' hb' hd _ => hnext t ?_
  rw [hd, Option.some.inj (hb'.symm.trans hb)]

/-- `SA(PC++); AD <- zext_16(GD())`, at an operand byte that is known. -/
theorem State.Runs.operandHigh {j : Word} (h : State.Runs (m + 2) (n + 1) opcode k (u.byteAddress j) ad u s)
    (hstep : StepAt opcode k operandHighStep false) {l b : Byte} (hl : getData s.pins = l)
    (hb : u.readByte (u.byteAddress j) = some b) {r : Result}
    (hnext : ∀ t, getData t.pins = b →
      State.Runs (m + 1) n opcode (k + 1#3) (u.byteAddress (j + 1#16)) (l.setWidth 16) u t → t.cycles (m + 1) = r) :
    s.cycles (m + 2) = r := by
  rw [← hl, ← s.getData_tickPins, ← u.byteAddress_succ, ← h.core_pc] at hnext
  rw [← h.core_pc] at hb
  rw [← State.readThen_of_some hb fun _ => r]
  refine h.readStep hstep rfl fun t b' hb' hd _ => hnext t ?_
  rw [hd, Option.some.inj (hb'.symm.trans hb)]

/-- `(GD() << 8) | AD[7:0]` is the address whose two bytes have been read. -/
theorem State.Runs.assembled {l b : Byte} (h : State.Runs m n opcode k pc (l.setWidth 16) u s) (hb : getData s.pins = b) :
    s.dispatchCore.assembled s.tickPins = join b l := by
  rw [Core.assembled, State.getData_tickPins, hb, h.core_ad, lo_setWidth]

/-- `AD <- (GD() << 8) | AD[7:0]; SA(AD)`. -/
theorem State.Runs.readEffective {addr : Word} (h : State.Runs (m + 2) (n + 1) opcode k pc ((lo addr).setWidth 16) u s)
    (hstep : StepAt opcode k readEffectiveStep false) (hd : getData s.pins = hi addr) {K : Byte → Result}
    (hnext : ∀ t b, getData t.pins = b → getAddress t.pins = addr →
      State.Runs (m + 1) n opcode (k + 1#3) pc addr u t → t.cycles (m + 1) = K b) :
    s.cycles (m + 2) = u.readThen addr K := by
  obtain rfl := h.core_pc
  have ha : s.dispatchCore.assembled s.tickPins = addr := by rw [h.assembled hd, join_hi_lo]
  refine h.readStep hstep ?_ fun t b _ => hnext t b
  rw [readEffectiveStep, ha]

/-- `SA(0x0100 | S); AD <- zext_16(GD())`. -/
theorem State.Runs.peekStack {l : Byte} (h : State.Runs (m + 2) (n + 1) opcode k pc ad u s)
    (hstep : StepAt opcode k peekStackStep false) (hl : getData s.pins = l) {K : Byte → Result}
    (hnext : ∀ t b, State.Runs (m + 1) n opcode (k + 1#3) pc (l.setWidth 16) u t → t.cycles (m + 1) = K b) :
    s.cycles (m + 2) = u.readThen u.core.stackAddress K := by
  obtain rfl := h.core_pc
  refine h.readStep hstep ?_ fun t b _ _ _ => hnext t b
  rw [peekStackStep, State.getData_tickPins, hl, h.core_stackAddress]

/-- Step 5 of the BRK sequence (R226). -/
theorem State.Runs.vectorHigh {l : Byte} (h : State.Runs (m + 2) (n + 1) opcode k pc ad u s)
    (hstep : StepAt opcode k brkVectorHighStep false) (hl : getData s.pins = l) {K : Byte → Result}
    (hnext : ∀ t b, getData t.pins = b → State.Runs (m + 1) n opcode (k + 1#3) pc (l.setWidth 16) u t →
      t.cycles (m + 1) = K b) :
    s.cycles (m + 2) = u.readThen ad K := by
  obtain rfl := h.core_pc
  refine h.readStep hstep ?_ fun t b _ hd _ => hnext t b hd
  rw [brkVectorHighStep, State.getData_tickPins, hl, h.core_ad]

/-- Step 4 of the BRK sequence (R225), the last tick that samples IRQB with the old I. -/
theorem State.Runs.vectorLow (h : State.Runs (m + 2) 1 opcode k pc ad u s)
    (hstep : StepAt opcode k brkVectorLowStep false) {K : Byte → Result}
    (hnext : ∀ t b, getData t.pins = b →
      State.Runs (m + 1) 0 opcode (k + 1#3) pc (ad + 1#16)
        { u with core := { u.core with p := maskedStatus u.core.p, brkFlags := 0#3 } } t → t.cycles (m + 1) = K b) :
    s.cycles (m + 2) = u.readThen ad K := by
  obtain rfl := h.core_pc
  have hok : brkVectorLowStep s.dispatchCore s.tickPins =
      .ok ({ s.dispatchCore with
        s := u.core.s, p := maskedStatus u.core.p, brkFlags := 0#3, pc := s.dispatchCore.pc, ad := ad + 1#16 },
        setAddress s.tickPins ad) := by
    rw [brkVectorLowStep, h.core_ad, h.core_p, ← h.core_s]
  exact h.readCycle hstep hok (.inl rfl) (by simp) (by simp) fun t b _ hd _ => hnext t b hd

/-! ### Writes -/

theorem State.writeByte_withRegisters (u : State) (sp p : Byte) (flags : BitVec 3) (a : Word) (b : Byte) :
    (u.withRegisters sp p flags).writeByte a b = { u.writeByte a b with core := (u.withRegisters sp p flags).core } := by
  unfold State.writeByte
  split <;> rfl

/-- `AD <- (GD() << 8) | AD[7:0]; SAD(AD, A); WR()`. -/
theorem State.Runs.storeAccumulator {addr : Word}
    (h : State.Runs (m + 2) (n + 1) opcode k pc ((lo addr).setWidth 16) u s)
    (hstep : StepAt opcode k storeAccumulatorStep false) (hd : getData s.pins = hi addr) {r : Result}
    (hnext : ∀ t, getData t.pins = u.core.a →
      State.Runs (m + 1) n opcode (k + 1#3) pc addr (u.writeByte addr u.core.a) t → t.cycles (m + 1) = r) :
    s.cycles (m + 2) = r := by
  obtain rfl := h.core_pc
  have ha : s.dispatchCore.assembled s.tickPins = addr := by rw [h.assembled hd, join_hi_lo]
  have hok : storeAccumulatorStep s.dispatchCore s.tickPins =
      .ok ({ s.dispatchCore with
        s := u.core.s, p := u.core.p, brkFlags := u.core.brkFlags, pc := s.dispatchCore.pc, ad := addr },
        beginWrite (setAddressAndData s.tickPins addr u.core.a)) := by
    rw [storeAccumulatorStep, ha, ← h.core_a, ← h.core_s, ← h.core_p, ← h.core_brkFlags]
  exact h.writeCycle hstep hok (.inr rfl) (by simp) (by simp [setAddressAndData]) (by simp [setAddressAndData])
    fun t hd _ => hnext t hd

/-- `AD <- zext_16(GD()); WR()`, address and data pins as they are. -/
theorem State.Runs.dummyWrite {a : Word} {b : Byte} (h : State.Runs (m + 2) (n + 1) opcode k pc ad u s)
    (hstep : StepAt opcode k dummyWriteStep false) (hd : getData s.pins = b) (ha : getAddress s.pins = a) {r : Result}
    (hnext : ∀ t, getAddress t.pins = a →
      State.Runs (m + 1) n opcode (k + 1#3) pc (b.setWidth 16) (u.writeByte a b) t → t.cycles (m + 1) = r) :
    s.cycles (m + 2) = r := by
  obtain rfl := h.core_pc
  have hok : dummyWriteStep s.dispatchCore s.tickPins =
      .ok ({ s.dispatchCore with
        s := u.core.s, p := u.core.p, brkFlags := u.core.brkFlags, pc := s.dispatchCore.pc, ad := b.setWidth 16 },
        beginWrite s.tickPins) := by
    rw [dummyWriteStep, State.getData_tickPins, hd, ← h.core_s, ← h.core_p, ← h.core_brkFlags]
  exact h.writeCycle hstep hok (.inr rfl) (by simp) (by simpa using ha) (by simpa using hd) fun t _ => hnext t

/-- `SD(op(AD[7:0])); WR()`, the address pins as they are. -/
theorem State.Runs.modify {op : ShiftOp} (hop : op.WritesOnly [.c, .z, .n]) {a : Word} {b : Byte}
    (h : State.Runs (m + 2) (n + 1) opcode k pc (b.setWidth 16) u s) (hstep : StepAt opcode k (modifyStep op) false)
    (ha : getAddress s.pins = a) {r : Result}
    (hnext : ∀ t, getData t.pins = (op b u.core.p).1 →
      State.Runs (m + 1) n opcode (k + 1#3) pc (b.setWidth 16)
        { u.writeByte a (op b u.core.p).1 with core := { u.core with p := (op b u.core.p).2 } } t →
      t.cycles (m + 1) = r) :
    s.cycles (m + 2) = r := by
  obtain rfl := h.core_pc
  have hok : modifyStep op s.dispatchCore s.tickPins =
      .ok ({ s.dispatchCore with
        s := u.core.s, p := (op b u.core.p).2, brkFlags := u.core.brkFlags, pc := s.dispatchCore.pc,
        ad := b.setWidth 16 },
        beginWrite (setData s.tickPins (op b u.core.p).1)) := by
    rw [modifyStep, ← h.core_s, ← h.core_brkFlags, ← h.core_p]
    simp only [h.core_ad, lo_setWidth]
  exact h.writeCycle hstep hok (.inr (hop _ _ _ (by decide))) (by simp) (by simpa using ha) (by simp)
    fun t hd _ ht => hnext t hd (State.writeByte_withRegisters _ _ _ _ _ _ ▸ ht)

section
variable {pc' ad' : Word} {f : MicroStep} {b : Byte} (h : State.Runs (m + 2) (n + 1) opcode k pc ad u s)
  (hstep : StepAt opcode k f false)
include h hstep

/-- A push (R171, R222 to R224). -/
theorem State.Runs.push (hok : f s.dispatchCore s.tickPins =
      .ok ({ s.dispatchCore with s := s.dispatchCore.s - 1#8, pc := pc', ad := ad' },
        pushVector s.dispatchCore s.tickPins b false)) {r : Result}
    (hnext : ∀ t, State.Runs (m + 1) n opcode (k + 1#3) pc' ad' (u.push b) t → t.cycles (m + 1) = r) :
    s.cycles (m + 2) = r := by
  have hok' : f s.dispatchCore s.tickPins =
      .ok ({ s.dispatchCore with
          s := u.core.s - 1#8, p := u.core.p, brkFlags := u.core.brkFlags, pc := pc', ad := ad' },
        pushVector s.dispatchCore s.tickPins b false) := by
    rw [hok, ← h.core_s, ← h.core_p, ← h.core_brkFlags]
  have hpush : (u.withRegisters (u.core.s - 1#8) u.core.p u.core.brkFlags).writeByte u.core.stackAddress b = u.push b := by
    simp only [State.writeByte_withRegisters, State.push, State.writeByte_core]
  exact h.writeCycle hstep hok' (.inr rfl) (by simp) (by simpa using h.core_stackAddress) (getData_pushVector _ _ _ _)
    fun t _ _ ht => hnext t (hpush ▸ ht)

/-- A push of the BRK sequence, which a pending reset suppresses to a read (R222 to R224). -/
theorem State.Runs.pushOrRead {reset : Bool} (hok : f s.dispatchCore s.tickPins =
      .ok ({ s.dispatchCore with s := s.dispatchCore.s - 1#8, pc := pc', ad := ad' },
        pushVector s.dispatchCore s.tickPins b reset)) {K : State → Result}
    (hnext : ∀ t v, v.core = { u.core with s := u.core.s - 1#8 } → State.Runs (m + 1) n opcode (k + 1#3) pc' ad' v t →
      t.cycles (m + 1) = K v) :
    s.cycles (m + 2) = u.pushOrRead reset b K := by
  cases reset with
  | true =>
    have hok' : f s.dispatchCore s.tickPins =
        .ok ({ s.dispatchCore with
            s := u.core.s - 1#8, p := u.core.p, brkFlags := u.core.brkFlags, pc := pc', ad := ad' },
          pushVector s.dispatchCore s.tickPins b true) := by
      rw [hok, ← h.core_s, ← h.core_p, ← h.core_brkFlags]
    exact h.readCycle hstep hok' (.inr rfl) (by simp) (by simpa using h.core_stackAddress)
      fun t _ _ _ _ ht => hnext t _ rfl ht
  | false => exact h.push hstep hok fun t ht => hnext t _ (by simp [State.push]) ht

end

/-- Steps 2 and 3 of JSR (R171). -/
theorem State.Runs.pushStep {byteOf : Word → Byte} (h : State.Runs (m + 2) (n + 1) opcode k pc ad u s)
    (hstep : StepAt opcode k (pushStep byteOf) false) {r : Result}
    (hnext : ∀ t, State.Runs (m + 1) n opcode (k + 1#3) pc ad (u.push (byteOf pc)) t → t.cycles (m + 1) = r) :
    s.cycles (m + 2) = r := by
  obtain rfl := h.core_pc
  obtain rfl := h.core_ad
  exact h.push hstep rfl hnext

section
variable {flags : BitVec 3} (h : State.Runs (m + 2) (n + 1) opcode k pc ad u s) (hflags : u.core.brkFlags = flags)
include h hflags

/-- Step 1 of the BRK sequence (R222). -/
theorem State.Runs.brkPushHigh (hstep : StepAt opcode k brkPushHighStep false) {K : State → Result}
    (hnext : ∀ t v, v.core = { u.core with s := u.core.s - 1#8 } →
      State.Runs (m + 1) n opcode (k + 1#3) (returnAddress flags pc) ad v t → t.cycles (m + 1) = K v) :
    s.cycles (m + 2) = u.pushOrRead (resetPending flags) (hi (returnAddress flags pc)) K := by
  obtain rfl := h.core_pc
  obtain rfl := h.core_ad
  obtain rfl := h.core_brkFlags.trans hflags
  exact h.pushOrRead hstep rfl hnext

/-- Step 2 of the BRK sequence (R223). -/
theorem State.Runs.brkPushLow (hstep : StepAt opcode k brkPushLowStep false) {K : State → Result}
    (hnext : ∀ t v, v.core = { u.core with s := u.core.s - 1#8 } → State.Runs (m + 1) n opcode (k + 1#3) pc ad v t →
      t.cycles (m + 1) = K v) :
    s.cycles (m + 2) = u.pushOrRead (resetPending flags) (lo pc) K := by
  obtain rfl := h.core_pc
  obtain rfl := h.core_ad
  obtain rfl := h.core_brkFlags.trans hflags
  exact h.pushOrRead hstep rfl hnext

/-- Step 3 of the BRK sequence (R224). -/
theorem State.Runs.brkPushStatus (hstep : StepAt opcode k brkPushStatusStep false) {K : State → Result}
    (hnext : ∀ t v, v.core = { u.core with s := u.core.s - 1#8 } →
      State.Runs (m + 1) n opcode (k + 1#3) pc (vectorFor flags) v t → t.cycles (m + 1) = K v) :
    s.cycles (m + 2) = u.pushOrRead (resetPending flags) (pushedStatus u.core.p) K := by
  obtain rfl := h.core_pc
  obtain rfl := h.core_brkFlags.trans hflags
  rw [← h.core_p]
  exact h.pushOrRead hstep rfl hnext

end

end

/-! ### The final steps -/

section
variable {opcode : Byte} {k : BitVec 3} {pc ad : Word} {bus : Byte} {u s : State}
  (h : State.Runs 1 1 opcode k pc ad u s) (hbus : getData s.pins = bus)
include h hbus

/-- `FETCH()`. -/
theorem State.Runs.fetchAtPc (hstep : StepAt opcode k fetchStep true) :
    s.cycles 1 = ({ u with core := { u.core with pc := pc, ad := ad } } : State).fetchNext opcode (k + 1#3) bus := by
  refine h.fetch (a := u.core.a) (p := u.core.p) hstep ?_ hbus
  rw [fetchStep, ← h.core_a, ← h.core_p, ← h.core_pc]

theorem State.Runs.executeRead_some {op : ReadOp} {a p : Byte} (hstep : StepAt opcode k (executeReadStep op) true)
    (hop : op u.core.a u.core.p bus = some (a, p)) :
    s.cycles 1 =
      ({ u with core := { u.core with a := a, p := p, pc := pc, ad := ad } } : State).fetchNext opcode (k + 1#3) bus := by
  refine h.fetch hstep ?_ hbus
  simp only [executeReadStep, State.getData_tickPins, hbus, h.core_a, h.core_p, hop, ← h.core_pc]

theorem State.Runs.executeRead_none {op : ReadOp} (hstep : StepAt opcode k (executeReadStep op) true)
    (hop : op u.core.a u.core.p bus = none) :
    s.cycles 1 = .fault (.engine (.decimalModeUnsupported opcode k)) := by
  refine h.fault hstep ?_ 0
  simp only [executeReadStep, State.getData_tickPins, hbus, h.core_a, h.core_p, hop, h.core_ir]

theorem State.Runs.executeFlag {f : Flag} {value : Bool} (hstep : StepAt opcode k (executeFlagStep f value) true) :
    s.cycles 1 =
      ({ u with core := { u.core with p := setFlag u.core.p f value, pc := pc, ad := ad } } : State).fetchNext
        opcode (k + 1#3) bus := by
  refine h.fetch (a := u.core.a) hstep ?_ hbus
  rw [executeFlagStep, ← h.core_a, h.core_p, ← h.core_pc]

theorem State.Runs.executeAccumulator {op : ShiftOp} (hstep : StepAt opcode k (executeAccumulatorStep op) true) :
    s.cycles 1 =
      ({ u with core := { u.core with
          a := (op u.core.a u.core.p).1, p := (op u.core.a u.core.p).2, pc := pc, ad := ad } } : State).fetchNext
        opcode (k + 1#3) bus := by
  refine h.fetch hstep ?_ hbus
  rw [executeAccumulatorStep, h.core_a, h.core_p, ← h.core_pc]

/-- `PC <- (GD() << 8) | AD[7:0]; FETCH()`. -/
theorem State.Runs.jump {l : Byte} (hl : ad = l.setWidth 16) (hstep : StepAt opcode k jumpStep true) :
    s.cycles 1 =
      ({ u with core := { u.core with pc := join bus l, ad := l.setWidth 16 } } : State).fetchNext
        opcode (k + 1#3) bus := by
  subst hl
  refine h.fetch (a := u.core.a) (p := u.core.p) hstep ?_ hbus
  rw [jumpStep, h.assembled hbus, ← h.core_a, ← h.core_p]

end

end Sys2Proof.Machine
end

section
/-! SUPPORT. What the decoder answers is the instruction whose encoding it read (`30_encoding.md` R70, R78). -/

namespace Sys2Proof

/-- The instruction of an entry of the opcode map, its operand taken from a word. -/
def OpShape.instr : OpShape → Word → Instr
  | .bare i, _ => i
  | .imm mk, w => mk (lo w)
  | .abs mk, w => mk w

/-- The operand bytes of that instruction (`30_encoding.md` R73, R74). -/
def OpShape.operands : OpShape → Word → List Byte
  | .bare _, _ => []
  | .imm _, w => [lo w]
  | .abs _, w => [lo w, hi w]

/-- Each entry of the opcode map stands at its own opcode value. -/
theorem encode_opShape (op : Byte) (w : Word) : encode ((opShape op).instr w) = op :: (opShape op).operands w := by
  obtain ⟨n, hn, rfl⟩ : ∃ n, n < 256 ∧ op = BitVec.ofNat 8 n := ⟨op.toNat, op.isLt, by simp⟩
  interval_cases n <;> rfl

/-- What was decoded is the encoding of the result (`30_encoding.md` R78). -/
theorem encode_of_decode {bytes rest : List Byte} {i : Instr} (h : decode bytes = .ok (i, rest)) :
    encode i ++ rest = bytes := by
  unfold decode at h
  split at h
  · cases h
  · next op tail =>
    have he := encode_opShape op
    split at h
    · next j _ hs =>
      cases h
      have henc : encode i = [op] := by simpa [hs, OpShape.instr, OpShape.operands] using he 0#16
      simp [henc]
    · next mk v _ hs =>
      cases h
      have henc : encode (mk v) = [op, v] := by
        simpa [hs, OpShape.instr, OpShape.operands, lo] using he (v.setWidth 16)
      simp [henc]
    · next mk l b _ hs =>
      cases h
      have henc : encode (mk (join b l)) = [op, l, b] := by
        simpa [hs, OpShape.instr, OpShape.operands] using he (join b l)
      simp [henc]
    · cases h

end Sys2Proof
end

section
/-! SUPPORT. Every instruction, and every interrupt sequence, is its ticks: each operand form tick by tick, then the decoder's
side of it (`40_engine.md` R105 to R110, R113; `60_exceptions.md` R219 to R228; `30_encoding.md` R70). -/

namespace Sys2Proof.Machine

/-! ### The SYNC tick -/

theorem recognised_eq_zero {flags : BitVec 3} {irqPip nmiPip : BitVec 16} (h : recognised flags irqPip nmiPip = 0#3) :
    flags = 0#3 := by
  unfold recognised at h
  split at h <;> split at h <;> simp_all [BitVec.or_eq_zero_iff]

/-- Phases 1 to 3 of a SYNC tick that finds something pending, with RESB high: the opcode is discarded and PC stays at its
address (R97, R98). -/
theorem Core.beforeDispatch_of_pending {c : Core} {p : Pins} (hs : pin p .sync = true) (hr : pin p .resb = true)
    (hq : recognised c.brkFlags c.irqPip c.nmiPip ≠ 0#3) :
    c.beforeDispatch p =
      { c with
        ir := ⟨0x00#8, 0#3⟩, p := setFlag c.p .b false, brkFlags := recognised c.brkFlags c.irqPip c.nmiPip,
        irqPip := tickIrqPip c p, nmiPip := tickNmiPip c p } := by
  simp [Core.beforeDispatch, Core.detectReset, Core.detect, Core.latch, Core.recognise, Core.hijackOrAdvance,
    Core.redirect, hs, hr, recognised_samples, hq, tickIrqPip, tickNmiPip]

/-- The vector the host presents with the next rising edge carries the queued fetch's SYNC and the scheduled RESB. -/
theorem State.presented_sync_resb {s : State} (hsync : pin s.pins .sync = true) (hresb : s.nextInputs.resb = true) :
    pin (presentInputs (drive s.pins .phi2 false) s.nextInputs) .sync = true ∧
      pin (presentInputs (drive s.pins .phi2 false) s.nextInputs) .resb = true := by
  simp [pin_presentInputs, pin_drive, hsync, hresb]

/-- An instruction starts with the next tick: its opcode is on the data pins of a queued fetch, nothing is pending, and RESB
stays high for `m` ticks. -/
structure State.Fetched (s : State) (opcode : Byte) (m : Nat) : Prop where
  live : s.core.fault = none
  sync : pin s.pins .sync = true
  data : getData s.pins = opcode
  quiet : s.pendingAtSync = 0#3
  resb : s.resbHigh m = true

/-- The SYNC tick of an instruction dispatches its step 0, with PC past the opcode (R96 to R98). -/
theorem State.Fetched.runs {s : State} {opcode : Byte} {m : Nat} (h : s.Fetched opcode (m + 1)) (n : Nat) :
    State.Runs (m + 1) (n + 1) opcode 0#3 ((s.instrTicks (n + 1)).byteAddress 1#16) (s.instrTicks (n + 1)).core.ad
      (s.instrTicks (n + 1)) s := by
  have hu := s.instrTicks_same (n + 1)
  refine ⟨h.live, h.resb, fun hk => absurd rfl hk, ?_, hu.mem.symm, hu.map.symm, ?_⟩
  · have hflags : s.core.brkFlags = 0#3 := recognised_eq_zero h.quiet
    obtain ⟨hs, hr⟩ := State.presented_sync_resb h.sync (State.resbHigh_succ h.resb).1
    have hd : s.dispatchCore = _ := Core.beforeDispatch_of_sync hs hr h.quiet
    rw [hd]
    simp [State.byteAddress, h.data, hflags]
  · rw [State.ahead_of_sync h.sync]
    exact .refl _

/-- A SYNC tick that recognises something dispatches step 0 of a BRK sequence at the opcode's own address (R98, R219). -/
theorem State.runs_interrupt {s : State} {m : Nat} (hlive : s.core.fault = none) (hsync : pin s.pins .sync = true)
    (hresb : s.resbHigh (m + 1) = true) (hpending : s.pendingAtSync ≠ 0#3) :
    State.Runs (m + 1) 1 0x00#8 0#3 s.core.pc s.core.ad
      { s.passTick true with
        core := { (s.passTick true).core with p := setFlag s.core.p .b false, brkFlags := s.pendingAtSync } } s := by
  refine ⟨hlive, hresb, fun hk => absurd rfl hk, ?_, rfl, rfl, ?_⟩
  · obtain ⟨hs, hr⟩ := State.presented_sync_resb hsync (State.resbHigh_succ hresb).1
    have hd : s.dispatchCore = _ := Core.beforeDispatch_of_pending hs hr hpending
    rw [hd]
    rfl
  · simp only [State.ahead, State.fetchQueued, hsync, State.passTicks]
    exact ⟨rfl, rfl, rfl, rfl, fun _ _ => rfl⟩

/-! ### Each operand form, tick by tick -/

theorem State.byteAddress_writeByte (s : State) (a : Word) (b : Byte) (j : Word) :
    (s.writeByte a b).byteAddress j = s.byteAddress j := by
  rw [State.byteAddress, State.writeByte_core, State.byteAddress]

section
variable {s : State} {opcode : Byte}

theorem immediate_cycles {op : ReadOp} {v : Byte} (hprog : microProgram opcode = some (immProgram op))
    (h : s.Fetched opcode 2) (hv : s.readByte (s.core.pc + 1#16) = some v) :
    s.cycles 2 = immediate opcode op v s := by
  refine (h.runs 1).operand ⟨_, hprog, rfl, rfl⟩ (by simpa [State.byteAddress] using hv) fun t hd ht => ?_
  simp only [immediate]
  split
  · next a p hop => exact ht.executeRead_some hd ⟨_, hprog, rfl, rfl⟩ hop
  · next hop => exact ht.executeRead_none hd ⟨_, hprog, rfl, rfl⟩ hop

theorem accumulator_cycles {op : ShiftOp} (hprog : microProgram opcode = some (accProgram op)) (h : s.Fetched opcode 2) :
    s.cycles 2 = accumulator opcode op s :=
  (h.runs 1).dummyRead ⟨_, hprog, rfl, rfl⟩ fun _ _ hd ht => ht.executeAccumulator hd ⟨_, hprog, rfl, rfl⟩

theorem impliedFlag_cycles {f : Flag} {value : Bool} (hprog : microProgram opcode = some (impProgram f value))
    (h : s.Fetched opcode 2) : s.cycles 2 = impliedFlag opcode f value s :=
  (h.runs 1).dummyRead ⟨_, hprog, rfl, rfl⟩ fun _ _ hd ht => ht.executeFlag hd ⟨_, hprog, rfl, rfl⟩

section
variable {addr : Word} (hl : s.readByte (s.core.pc + 1#16) = some (lo addr))
  (hh : s.readByte (s.core.pc + 2#16) = some (hi addr))
include hl hh

/-- The first two steps of every absolute form but JSR, at the two operand bytes. -/
theorem State.Fetched.operands {m : Nat} (h : s.Fetched opcode (m + 3)) (hlow : StepAt opcode 0#3 operandStep false)
    (hhigh : StepAt opcode 1#3 operandHighStep false) {r : Result}
    (hnext : ∀ t, getData t.pins = hi addr →
      State.Runs (m + 1) (m + 1) opcode 2#3 ((s.instrTicks (m + 3)).byteAddress 3#16) ((lo addr).setWidth 16)
        (s.instrTicks (m + 3)) t → t.cycles (m + 1) = r) :
    s.cycles (m + 3) = r := by
  refine (h.runs (m + 2)).operand hlow (by simpa [State.byteAddress] using hl) fun t1 d1 h1 => ?_
  exact h1.operandHigh hhigh d1 (by simpa [State.byteAddress] using hh) hnext

theorem absoluteRead_cycles {op : ReadOp} (hprog : microProgram opcode = some (absReadProgram op))
    (h : s.Fetched opcode 4) : s.cycles 4 = absoluteRead opcode op addr s := by
  refine h.operands hl hh ⟨_, hprog, rfl, rfl⟩ ⟨_, hprog, rfl, rfl⟩ fun t2 d2 h2 => ?_
  refine h2.readEffective ⟨_, hprog, rfl, rfl⟩ d2 fun t3 b d3 _ h3 => ?_
  dsimp only
  split
  · next a p hop => exact h3.executeRead_some d3 ⟨_, hprog, rfl, rfl⟩ hop
  · next hop => exact h3.executeRead_none d3 ⟨_, hprog, rfl, rfl⟩ hop

theorem absoluteWrite_cycles (hprog : microProgram opcode = some absWriteProgram) (h : s.Fetched opcode 4) :
    s.cycles 4 = absoluteWrite opcode s.core.a addr s := by
  refine h.operands hl hh ⟨_, hprog, rfl, rfl⟩ ⟨_, hprog, rfl, rfl⟩ fun t2 d2 h2 => ?_
  refine h2.storeAccumulator ⟨_, hprog, rfl, rfl⟩ d2 fun t3 d3 h3 => ?_
  rw [h3.fetchAtPc d3 ⟨_, hprog, rfl, rfl⟩]
  simp [absoluteWrite, State.byteAddress]

theorem absoluteModify_cycles {op : ShiftOp} (hop : op.WritesOnly [.c, .z, .n])
    (hprog : microProgram opcode = some (absModifyProgram op)) (h : s.Fetched opcode 6) :
    s.cycles 6 = absoluteModify opcode op addr s := by
  refine h.operands hl hh ⟨_, hprog, rfl, rfl⟩ ⟨_, hprog, rfl, rfl⟩ fun t2 d2 h2 => ?_
  refine h2.readEffective ⟨_, hprog, rfl, rfl⟩ d2 fun t3 b d3 a3 h3 => ?_
  refine h3.dummyWrite ⟨_, hprog, rfl, rfl⟩ d3 a3 fun t4 a4 h4 => ?_
  refine h4.modify hop ⟨_, hprog, rfl, rfl⟩ a4 fun t5 d5 h5 => ?_
  rw [h5.fetchAtPc d5 ⟨_, hprog, rfl, rfl⟩]
  simp only [State.writeByte_core, State.byteAddress_writeByte]
  rfl

theorem execJmp_cycles (h : s.Fetched 0x4C#8 3) : s.cycles 3 = execJmp addr s := by
  have hprog : microProgram 0x4C#8 = some jmpProgram := rfl
  refine h.operands hl hh ⟨_, hprog, rfl, rfl⟩ ⟨_, hprog, rfl, rfl⟩ fun t2 d2 h2 => ?_
  rw [h2.jump d2 rfl ⟨_, hprog, rfl, rfl⟩, join_hi_lo]
  rfl

omit hh in
theorem execJsr_cycles (h : s.Fetched 0x20#8 6) : s.cycles 6 = execJsr addr s := by
  have hprog : microProgram 0x20#8 = some jsrProgram := rfl
  refine (h.runs 5).operand ⟨_, hprog, rfl, rfl⟩ (by simpa [State.byteAddress] using hl) fun t1 d1 h1 => ?_
  refine h1.peekStack ⟨_, hprog, rfl, rfl⟩ d1 fun t2 _ h2 => ?_
  refine h2.pushStep ⟨_, hprog, rfl, rfl⟩ fun t3 h3 => ?_
  refine h3.pushStep ⟨_, hprog, rfl, rfl⟩ fun t4 h4 => ?_
  refine h4.dummyRead ⟨_, hprog, rfl, rfl⟩ fun t5 b d5 h5 => ?_
  exact h5.jump d5 rfl ⟨_, hprog, rfl, rfl⟩

end

/-! ### The BRK sequence -/

/-- Steps 1 to 6, for the flags pending at its start. -/
theorem State.Runs.brkSequence {pc ad : Word} {u t : State} (h : State.Runs 6 0 0x00#8 1#3 pc ad u t)
    (hpc : u.core.pc = pc) : t.cycles 6 = u.brkSequence u.core.brkFlags := by
  subst hpc
  have hprog : microProgram 0x00#8 = some brkProgram := rfl
  have hu := u.passTicks_same 4
  have h1 := h.catchUp (by decide) 4
  rw [← hu.pc] at h1
  unfold State.brkSequence
  refine h1.brkPushHigh hu.brkFlags ⟨_, hprog, rfl, rfl⟩ fun t2 v2 c2 h2 => ?_
  refine h2.brkPushLow (by rw [c2, hu.brkFlags]) ⟨_, hprog, rfl, rfl⟩ fun t3 v3 c3 h3 => ?_
  refine h3.brkPushStatus (by rw [c3, c2, hu.brkFlags]) ⟨_, hprog, rfl, rfl⟩ fun t4 v4 c4 h4 => ?_
  refine h4.vectorLow ⟨_, hprog, rfl, rfl⟩ fun t5 l d5 h5 => ?_
  refine (h5.catchUp (by decide) 2).vectorHigh ⟨_, hprog, rfl, rfl⟩ d5 fun t6 b d6 h6 => ?_
  exact h6.jump d6 rfl ⟨_, hprog, rfl, rfl⟩

/-- PC of the instruction level's state is not looked at. -/
theorem State.Runs.withPc {m n : Nat} {k : BitVec 3} {pc ad : Word} {u : State} (h : State.Runs m n opcode k pc ad u s)
    (pc' : Word) : State.Runs m n opcode k pc ad { u with core := { u.core with pc := pc' } } s :=
  ⟨h.live, h.resb, h.inside, h.core, h.mem, h.map, h.lines.trans ⟨rfl, rfl, rfl, rfl, fun _ _ => rfl⟩⟩

theorem execBrk_cycles (h : s.Fetched 0x00#8 7) : s.cycles 7 = execBrk s := by
  have hprog : microProgram 0x00#8 = some brkProgram := rfl
  have hflags : s.core.brkFlags = 0#3 := recognised_eq_zero h.quiet
  simp only [execBrk, ← hflags]
  exact ((h.runs 0).withPc (s.core.pc + 1#16)).dummyRead ⟨_, hprog, rfl, rfl⟩ fun _ _ _ ht => ht.brkSequence rfl

theorem State.takeInterrupt_cycles (hlive : s.core.fault = none) (hsync : pin s.pins .sync = true)
    (hresb : s.resbHigh 7 = true) (hpending : s.pendingAtSync ≠ 0#3) : s.cycles 7 = s.takeInterrupt := by
  have hprog : microProgram 0x00#8 = some brkProgram := rfl
  exact (State.runs_interrupt hlive hsync hresb hpending).dummyRead ⟨_, hprog, rfl, rfl⟩ fun _ _ _ ht =>
    ht.brkSequence rfl

end

/-- What every operand form means is what its ticks do, given its operand bytes after the opcode. -/
theorem OperandForm.cycles {opcode : Byte} {operands : List Byte} {program : List MicroStep} {meaning : State → Result}
    (hform : OperandForm opcode operands program meaning) (hprog : microProgram opcode = some program) {s : State}
    (h : s.Fetched opcode program.length)
    (hoperands : ∀ k b, operands[k]? = some b → s.readByte (s.core.pc + 1#16 + BitVec.ofNat 16 k) = some b) :
    s.cycles program.length = meaning s := by
  cases hform with
  | immediate _ op v => exact immediate_cycles hprog h (by simpa using hoperands 0 v rfl)
  | absoluteRead _ op addr =>
    exact absoluteRead_cycles (by simpa using hoperands 0 _ rfl) (by simpa [BitVec.add_assoc] using hoperands 1 _ rfl)
      hprog h
  | absoluteWrite _ addr =>
    exact absoluteWrite_cycles (by simpa using hoperands 0 _ rfl) (by simpa [BitVec.add_assoc] using hoperands 1 _ rfl)
      hprog h
  | absoluteModify _ op hop addr =>
    exact absoluteModify_cycles (by simpa using hoperands 0 _ rfl) (by simpa [BitVec.add_assoc] using hoperands 1 _ rfl)
      hop hprog h
  | accumulator => exact accumulator_cycles hprog h
  | implied => exact impliedFlag_cycles hprog h
  | jump addr =>
    exact execJmp_cycles (by simpa using hoperands 0 _ rfl) (by simpa [BitVec.add_assoc] using hoperands 1 _ rfl) h
  | call addr => exact execJsr_cycles (by simpa using hoperands 0 _ rfl) h
  | brk => exact execBrk_cycles h

/-! ### The decoder's side -/

theorem State.readByte_of_bytesAt {s : State} {n k : Nat} {a : Word} {b : Byte} (h : (s.bytesAt n a)[k]? = some b) :
    s.readByte (a + BitVec.ofNat 16 k) = some b := by
  induction n generalizing a k with
  | zero => cases h
  | succ n ih =>
    unfold State.bytesAt at h
    split at h
    · next v hv =>
      cases k with
      | zero =>
        cases h
        simpa using hv
      | succ k =>
        have hk := ih (by simpa using h)
        rw [BitVec.add_assoc, ← BitVec.ofNat_add, Nat.add_comm] at hk
        exact hk
    · cases h

/-- When an instruction runs whole at the next step (`40_engine.md` R113): its bytes are on the data pins and after PC. -/
theorem State.nextInstr_eq_some {s : State} {i : Instr} (h : s.nextInstr = some i) :
    pin s.pins .sync = true ∧ s.pendingAtSync = 0#3 ∧ s.resbHigh (ticks i) = true ∧
      ∃ rest, encode i ++ rest = s.instrBytes := by
  unfold State.nextInstr at h
  split at h
  · next hq =>
    obtain ⟨hsync, hpending⟩ := (Bool.and_eq_true _ _).mp hq
    split at h
    · next j rest hd =>
      split at h
      · next hr =>
        cases h
        exact ⟨hsync, of_decide_eq_true hpending, hr, rest, encode_of_decode hd⟩
      · cases h
    · cases h
  · cases h

theorem encode_of_not_admitted {i : Instr} (h : i.admitted = false) :
    encode i = [i.opcode] ∧ microProgram i.opcode = none := by
  cases i <;> cases h <;> exact ⟨rfl, rfl⟩

/-- An instruction that runs whole is its ticks, a fault included. -/
theorem exec_cycles {s : State} {i : Instr} (hlive : s.core.fault = none) (h : s.nextInstr = some i) :
    s.cycles (ticks i) = exec i s := by
  obtain ⟨hsync, hpending, hresb, rest, hbytes⟩ := State.nextInstr_eq_some h
  cases hi : i.admitted with
  | true =>
    obtain ⟨operands, program, henc, hprog, hform⟩ := hasForm_of_admitted hi
    rw [henc, State.instrBytes, List.cons_append, List.cons.injEq] at hbytes
    obtain ⟨hdata, hbytes⟩ := hbytes
    rw [ticks_of_program hprog] at hresb ⊢
    refine hform.cycles hprog ⟨hlive, hsync, hdata.symm, hpending, hresb⟩ fun k b hb => ?_
    refine State.readByte_of_bytesAt (n := 2) ?_
    rw [← hbytes, List.getElem?_append_left (List.getElem?_eq_some_iff.mp hb).1, hb]
  | false =>
    obtain ⟨henc, hprog⟩ := encode_of_not_admitted hi
    rw [henc, State.instrBytes, List.cons_append, List.cons.injEq] at hbytes
    have hticks : ticks i = 1 := by simp [ticks, hprog]
    rw [hticks] at hresb ⊢
    have hfetched : s.Fetched i.opcode 1 := ⟨hlive, hsync, hbytes.1.symm, hpending, hresb⟩
    have hruns := hfetched.runs 0
    rw [exec_of_not_admitted hi, State.cycles_one, State.cycle_of_error hlive, unimplemented]
    rw [dispatch, hruns.core_ir, hprog]

theorem ticks_pos (i : Instr) : 1 ≤ ticks i := by
  unfold ticks
  cases hprog : microProgram i.opcode with
  | none => exact Nat.le_refl 1
  | some program => exact (toNat_ofNat_length hprog).2

/-- Settles O44: a dead core's fault is one cycle's, and each of the three kinds of step is its ticks. -/
theorem stepIsSystemCycles : Obligations.StepIsSystemCycles := by
  intro s
  unfold step
  cases hf : s.core.fault with
  | some f => exact ⟨1, Nat.le_refl 1, by simp [State.cycles_one, State.cycle, tick, hf]⟩
  | none =>
    cases hn : s.nextInstr with
    | some i => exact ⟨ticks i, ticks_pos i, (exec_cycles hf hn).symm⟩
    | none =>
      cases hi : s.interruptNext with
      | true =>
        simp only [State.interruptNext, State.fetchQueued, Bool.and_eq_true, decide_eq_true_eq] at hi
        obtain ⟨⟨hsync, hpending⟩, hresb⟩ := hi
        exact ⟨7, by decide, (State.takeInterrupt_cycles hf hsync hresb hpending).symm⟩
      | false => exact ⟨1, Nat.le_refl 1, s.cycles_one.symm⟩

end Sys2Proof.Machine
end

section
/-! SUPPORT. The decoder over the entries of the opcode map: what each entry makes of its operand bytes, and that every
instruction is its opcode's entry at some operand (`30_encoding.md` R70, R73, R74, R77, R78). -/

namespace Sys2Proof

/-- The decoder on an entry's own operand bytes, whatever follows. -/
theorem decode_opShape_operands (op : Byte) (w : Word) (rest : List Byte) :
    decode (op :: (opShape op).operands w ++ rest) = .ok ((opShape op).instr w, rest) := by
  cases hs : opShape op with
  | bare i => simp [decode, hs, OpShape.instr, OpShape.operands]
  | imm mk => simp [decode, hs, OpShape.instr, OpShape.operands]
  | abs mk => simp [decode, hs, OpShape.instr, OpShape.operands]

/-- Any two bytes after an opcode hold the operand bytes of its entry for some word. -/
theorem exists_operands_append (sh : OpShape) (l h : Byte) (rest : List Byte) :
    ∃ w r, sh.operands w ++ r = l :: h :: rest := by
  cases sh with
  | bare i => exact ⟨0#16, l :: h :: rest, rfl⟩
  | imm mk => exact ⟨l.setWidth 16, h :: rest, by simp [OpShape.operands]⟩
  | abs mk => exact ⟨join h l, rest, by simp [OpShape.operands]⟩

/-- The opcode map leaves no instruction out: each one is its opcode's entry at some operand. -/
theorem exists_opShape_instr_eq (i : Instr) : ∃ w, (opShape i.opcode).instr w = i := by
  cases i
  case oraImm v | andImm v | eorImm v | adcImm v | sbcImm v | ldaImm v | cmpImm v =>
    refine ⟨v.setWidth 16, ?_⟩
    rw [Instr.opcode, encode, List.headD_cons]
    exact congrArg _ (Machine.lo_setWidth v)
  case oraAbs a | andAbs a | eorAbs a | adcAbs a | sbcAbs a | ldaAbs a | cmpAbs a | sta a | aslAbs a | rolAbs a |
      lsrAbs a | rorAbs a | jmp a | jsr a =>
    refine ⟨a, ?_⟩
    rw [Instr.opcode, encode, List.headD_cons]
    rfl
  all_goals exact ⟨0#16, rfl⟩

theorem opcode_opShape_instr (op : Byte) (w : Word) : ((opShape op).instr w).opcode = op := by
  rw [Instr.opcode, encode_opShape, List.headD_cons]

/-- Both tables of the admitted instructions agree, the one of the constructors and the one of the opcodes. -/
theorem admitted_iff_opcode_mem (i : Instr) : i.admitted = true ↔ i.opcode ∈ Machine.admittedOpcodes := by
  have hmem : i.admitted = decide (i.opcode ∈ Machine.admittedOpcodes) := by cases i <;> rfl
  rw [hmem, decide_eq_true_iff]

/-- Settles O1: an instruction is its opcode's entry at some operand, and the decoder reads that entry's bytes back. -/
theorem decodeOfEncodeIsIdentity : Obligations.DecodeOfEncodeIsIdentity := by
  intro i rest
  obtain ⟨w, hw⟩ := exists_opShape_instr_eq i
  rw [← hw, encode_opShape, decode_opShape_operands]

/-- Settles O2: what was decoded is the encoding of the result. -/
theorem encodeOfDecodeIsIdentity : Obligations.EncodeOfDecodeIsIdentity :=
  fun _ _ _ => encode_of_decode

/-- Settles O3: two bytes are operands enough for every entry, and the instruction read has the entry's opcode. -/
theorem decoderAdmitsExactlyTheTable : Obligations.DecoderAdmitsExactlyTheTable := by
  intro op l h rest
  obtain ⟨w, r, hbytes⟩ := exists_operands_append (opShape op) l h rest
  have hopcode := opcode_opShape_instr op w
  refine ⟨(opShape op).instr w, r, ?_, hopcode, ?_⟩
  · rw [← hbytes, ← List.cons_append, decode_opShape_operands]
  · rw [admitted_iff_opcode_mem, hopcode]

/-- Settles O4: each word is the encoding of its instruction, and decodes to it by the round trip. -/
theorem specWordsDecode : Obligations.SpecWordsDecode :=
  have roundTrip := decodeOfEncodeIsIdentity
  ⟨roundTrip (.ldaImm 0x00#8) [], roundTrip (.ldaAbs 0x1234#16) [], roundTrip (.sta 0x0200#16) [], roundTrip .sec [],
    roundTrip .aslAcc [], roundTrip (.aslAbs 0x0200#16) [], roundTrip (.jmp 0x1234#16) [],
    roundTrip (.jsr 0x9000#16) [], roundTrip .brk [0xEA#8], roundTrip .nop_i_EA []⟩

end Sys2Proof
end

section
/-! SUPPORT. The engine tick: the call that is no rising edge, the step counter, the pipelines, recognition, and the first
tick of a program, be it the BRK sequence's or the fetched instruction's (`40_engine.md` R91 to R102). -/

namespace Sys2Proof.Machine

/-! ### The two kinds of call -/

/-- A call that is no rising edge refreshes the snapshot's PHI2 and returns its vector (R91). -/
theorem tick_of_no_edge {c : Core} {p : Pins} (hf : c.fault = none) (h : risingEdge c p = false) :
    tick c p = .returned { c with pinsPrev := drive c.pinsPrev .phi2 (pin p .phi2) } p := by
  simp [tick, hf, h]

/-- A rising-edge call that returned is an engine tick of a live core (R90). -/
theorem tickEdge_of_returned {c c' : Core} {p p' : Pins} (h0 : pin c.pinsPrev .phi2 = false)
    (h1 : pin p .phi2 = true) (h : tick c p = .returned c' p') : tickEdge c p = .returned c' p' := by
  cases hf : c.fault with
  | some f => simp [tick, hf] at h
  | none => rwa [tick_of_edge hf h0 h1] at h

/-- Settles O7: the no-edge call, and the one bit that `drive` writes. -/
theorem noEdgeCallChangesNothing : Obligations.NoEdgeCallChangesNothing := by
  intro c p hf h
  have hedge : risingEdge c p = false := by simpa [risingEdge] using h
  exact ⟨_, tick_of_no_edge hf hedge, rfl, fun k => getLsbD_drive _ _ _ k⟩

/-! ### The step counter -/

/-- A tick that returned leaves the opcode it dispatched in IR, and a step counter one higher that did not wrap (R101). -/
theorem tickEdge_returned_ir {c c' : Core} {p p' : Pins} (h : tickEdge c p = .returned c' p') :
    c'.ir.opcode = (c.beforeDispatch p).ir.opcode ∧ c'.ir.step.toNat = (c.beforeDispatch p).ir.step.toNat + 1 := by
  unfold tickEdge at h
  simp only at h
  split at h
  · next d q hd =>
    cases h
    obtain ⟨program, -, hlt, h7, hm⟩ := dispatch_ok hd
    rw [Core.afterDispatch_ir, hm.ir, BitVec.toNat_add]
    exact ⟨rfl, Nat.mod_eq_of_lt (by simp; omega)⟩
  · cases h

/-- Settles O13: the bounds from the tick's facts; inside an instruction phases 1 to 3 leave IR alone. -/
theorem stepCounterStaysWithinTheDeclaredLength : Obligations.StepCounterStaysWithinTheDeclaredLength := by
  intro c c' p p' h0 h1 h
  have hedge := tickEdge_of_returned h0 h1 h
  obtain ⟨program, hprog, hpos, hle, h7, -⟩ := (tickEdge_returned hedge).step
  rw [programLength_of_program hprog]
  refine ⟨hpos, hle, h7, fun hsync hresb => ?_⟩
  have hir := tickEdge_returned_ir hedge
  rwa [Core.beforeDispatch_of_inside hsync hresb] at hir

/-! ### The pipelines -/

theorem toNat_agePip (pip : BitVec 16) : (agePip pip).toNat = pip.toNat * 2 % 65536 := by
  simp [agePip, BitVec.toNat_shiftLeft, Nat.shiftLeft_eq]

theorem toNat_keepYoung (pip : BitVec 16) : (keepYoung pip).toNat = pip.toNat % 4 := by
  rw [keepYoung, BitVec.toNat_and]
  exact Nat.and_two_pow_sub_one_eq_mod pip.toNat 2

/-- What phases 2 and 6 make of a sampled pipeline, as a number (R97, R102). -/
theorem toNat_agePip_of_sync (sync : Bool) (pip : BitVec 16) :
    (agePip (if sync then keepYoung pip else pip)).toNat = (if sync then pip.toNat % 4 else pip.toNat) * 2 % 65536 := by
  cases sync
  · exact toNat_agePip pip
  · rw [if_pos rfl, toNat_agePip, toNat_keepYoung, if_pos rfl]

/-- Settles O14: the detectors' samples, and the pipelines of the tick's facts as numbers. -/
theorem pipelinesSampleAndAge : Obligations.PipelinesSampleAndAge := by
  intro c c' p p' h0 h1 h
  have hf := tickEdge_returned (tickEdge_of_returned h0 h1 h)
  refine ⟨sampleIrq (flag c.p .i) (pin p .irqb) c.irqPip, sampleNmi (pin c.pinsPrev .nmib) (pin p .nmib) c.nmiPip,
    by simp [sampleIrq], by simp [sampleNmi], ?_, ?_⟩
  · rw [hf.irqPip]
    exact toNat_agePip_of_sync _ _
  · rw [hf.nmiPip]
    exact toNat_agePip_of_sync _ _

/-! ### Recognition -/

/-- The NMI samples old enough to be recognised are those that `keepYoung` drops. -/
theorem and_old_eq_zero_iff (pip : BitVec 16) : pip &&& 0xFFFC#16 = 0#16 ↔ pip.toNat < 4 := by
  have hsplit : keepYoung pip ||| (pip &&& 0xFFFC#16) = pip := by
    rw [keepYoung, ← BitVec.and_or_distrib_left]
    exact BitVec.and_allOnes
  constructor <;> intro h
  · rw [h, BitVec.or_zero] at hsplit
    rw [← hsplit, toNat_keepYoung]
    exact Nat.mod_lt _ (by decide)
  · have hyoung : keepYoung pip = pip := BitVec.eq_of_toNat_eq ((toNat_keepYoung pip).trans (Nat.mod_eq_of_lt h))
    rw [← hyoung, keepYoung, BitVec.and_assoc]
    exact BitVec.and_zero

theorem and_bit_two_eq_zero_iff (pip : BitVec 16) : pip &&& 0x0004#16 = 0#16 ↔ pip.getLsbD 2 = false := by
  have h : pip &&& 0x0004#16 = if pip.getLsbD 2 then 0x0004#16 else 0#16 := BitVec.and_twoPow pip 2
  rw [h]
  cases pip.getLsbD 2 <;> decide

theorem getLsbD_or_irqFlag : ∀ flags : BitVec 3,
    (flags ||| irqFlag).getLsbD 0 = true ∧ (flags ||| irqFlag).getLsbD 1 = flags.getLsbD 1 ∧
      (flags ||| irqFlag).getLsbD 2 = flags.getLsbD 2 := by decide

theorem getLsbD_or_nmiFlag : ∀ flags : BitVec 3,
    (flags ||| nmiFlag).getLsbD 0 = flags.getLsbD 0 ∧ (flags ||| nmiFlag).getLsbD 1 = true ∧
      (flags ||| nmiFlag).getLsbD 2 = flags.getLsbD 2 := by decide

theorem getLsbD_or_resetFlag : ∀ flags : BitVec 3, (flags ||| resetFlag).getLsbD 2 = true := by decide

/-- Recognition flag by flag: it sets IRQ and NMI, clears none, and leaves RESET alone (R97). -/
theorem getLsbD_recognised (flags : BitVec 3) (irqPip nmiPip : BitVec 16) :
    (recognised flags irqPip nmiPip).getLsbD 0 = (flags.getLsbD 0 || irqPip.getLsbD 2) ∧
      (recognised flags irqPip nmiPip).getLsbD 1 = (flags.getLsbD 1 || decide (4 ≤ nmiPip.toNat)) ∧
      (recognised flags irqPip nmiPip).getLsbD 2 = flags.getLsbD 2 := by
  simp only [recognised, ne_eq, and_old_eq_zero_iff, and_bit_two_eq_zero_iff, Bool.not_eq_false, Nat.not_lt]
  cases irqPip.getLsbD 2 <;> by_cases hn : 4 ≤ nmiPip.toNat <;> simp only [hn, getLsbD_or_irqFlag, getLsbD_or_nmiFlag,
    if_true, if_false, Bool.or_true, Bool.or_false, decide_true, decide_false, Bool.false_eq_true, and_self]

/-- Nothing is pending when none of the three flags is (`10_state.md` R20). -/
theorem brkFlags_eq_zero_iff :
    ∀ flags : BitVec 3, flags = 0#3 ↔ (flags.getLsbD 0 || flags.getLsbD 1 || flags.getLsbD 2) = false := by
  decide

theorem and_resetFlag_eq_iff : ∀ flags : BitVec 3, flags &&& 4#3 = 4#3 ↔ flags.getLsbD 2 = true := by decide

/-! ### Phases 1 to 3 of a tick with RESB low -/

theorem setFlag_setFlag_same (p : Byte) (f : Flag) (v : Bool) : setFlag (setFlag p f v) f v = setFlag p f v :=
  BitVec.eq_of_getLsbD_eq fun k _ => by
    rw [getLsbD_setFlag, getLsbD_setFlag]
    split <;> rfl

/-- The pending flags that a tick with RESB low leaves: RESET, and at a SYNC tick what it recognises too (R95, R97). -/
def resetTickFlags (c : Core) (p : Pins) : BitVec 3 :=
  if pin p .sync then recognised (c.brkFlags ||| resetFlag) c.irqPip c.nmiPip else c.brkFlags ||| resetFlag

theorem getLsbD_resetTickFlags (c : Core) (p : Pins) : (resetTickFlags c p).getLsbD 2 = true := by
  unfold resetTickFlags
  split
  · obtain ⟨-, -, hreset⟩ := getLsbD_recognised (c.brkFlags ||| resetFlag) c.irqPip c.nmiPip
    exact hreset.trans (getLsbD_or_resetFlag _)
  · exact getLsbD_or_resetFlag _

/-- SYNC or not, IR is BRK's step 0 and PC stays (R95, R98). -/
theorem Core.beforeDispatch_of_reset {c : Core} {p : Pins} (hr : pin p .resb = false) :
    c.beforeDispatch p =
      { c with
        ir := ⟨0x00#8, 0#3⟩, p := setFlag c.p .b false, brkFlags := resetTickFlags c p, irqPip := tickIrqPip c p,
        nmiPip := tickNmiPip c p } := by
  cases hs : pin p .sync with
  | false =>
    simp [Core.beforeDispatch, Core.detectReset, Core.detect, Core.redirect, hs, hr, resetTickFlags, tickIrqPip,
      tickNmiPip]
  | true =>
    have hpending : recognised (c.brkFlags ||| resetFlag) c.irqPip c.nmiPip ≠ 0#3 := fun h => by
      have hbit := getLsbD_resetTickFlags c p
      rw [resetTickFlags, if_pos hs, h] at hbit
      cases hbit
    simp [Core.beforeDispatch, Core.detectReset, Core.detect, Core.latch, Core.recognise, Core.hijackOrAdvance,
      Core.redirect, hs, hr, recognised_samples, hpending, setFlag_setFlag_same, resetTickFlags, tickIrqPip, tickNmiPip]

/-! ### The first tick of a program -/

theorem dispatch_of_program {c : Core} {program : List MicroStep} {f : MicroStep}
    (hprog : microProgram c.ir.opcode = some program) (hf : program[c.ir.step.toNat]? = some f) (p : Pins) :
    dispatch c p = f c p := by
  simp [dispatch, hprog, hf]

/-- A tick whose dispatch answers goes through phases 5 to 7 (R101 to R103). -/
theorem tickEdge_of_ok {c d : Core} {p q : Pins}
    (h : dispatch (c.beforeDispatch p) (pinsBeforeDispatch p) = .ok (d, q)) :
    tickEdge c p = .returned (d.afterDispatch q) q := by
  simp [tickEdge, h]

theorem rwb_stepZero (p : Pins) (a : Word) : pin (setAddress (pinsBeforeDispatch p) a) .rwb = true := by
  rw [pin_setAddress, pinsBeforeDispatch_rwb]

theorem sync_stepZero (p : Pins) (a : Word) : pin (setAddress (pinsBeforeDispatch p) a) .sync = false := by
  rw [pin_setAddress, pinsBeforeDispatch_sync]

/-- A tick that phases 1 to 3 redirected runs step 0 of the BRK sequence: a read at PC (R221). -/
theorem tickEdge_of_redirected {c d : Core} {p : Pins} (hd : c.beforeDispatch p = d) (hir : d.ir = ⟨0x00#8, 0#3⟩) :
    tickEdge c p = .returned (d.afterDispatch (setAddress (pinsBeforeDispatch p) d.pc))
      (setAddress (pinsBeforeDispatch p) d.pc) := by
  subst hd
  exact tickEdge_of_ok (dispatch_of_program (program := brkProgram) (f := dummyReadStep) (by rw [hir]; rfl)
    (by rw [hir]; rfl) _)

/-- Step 0 of every program reads at PC, and it moves PC on or not (R105 to R110). -/
theorem programTable_head : ∀ e ∈ programTable, e.2[0]? = some dummyReadStep ∨ e.2[0]? = some operandStep := by
  simp [programTable, brkProgram, jsrProgram, jmpProgram, immProgram, accProgram, impProgram, absReadProgram,
    absWriteProgram, absModifyProgram]

/-- A tick that phases 1 to 3 left at step 0 of a program reads at PC. -/
theorem tickEdge_of_stepZero {c d : Core} {p : Pins} {op : Byte} {program : List MicroStep}
    (hd : c.beforeDispatch p = d) (hir : d.ir = ⟨op, 0#3⟩) (hprog : microProgram op = some program) :
    ∃ pc, (pc = d.pc ∨ pc = d.pc + 1#16) ∧
      tickEdge c p = .returned (Core.afterDispatch { d with pc := pc } (setAddress (pinsBeforeDispatch p) d.pc))
        (setAddress (pinsBeforeDispatch p) d.pc) := by
  subst hd
  have hprog' : microProgram (c.beforeDispatch p).ir.opcode = some program := by rw [hir]; exact hprog
  rcases programTable_head _ (mem_of_lookup hprog) with h | h
  · exact ⟨_, .inl rfl, tickEdge_of_ok (dispatch_of_program hprog' (by rw [hir]; exact h) _)⟩
  · exact ⟨_, .inr rfl, tickEdge_of_ok (dispatch_of_program hprog' (by rw [hir]; exact h) _)⟩

theorem microProgram_isSome_of_admitted : ∀ op ∈ admittedOpcodes, (microProgram op).isSome = true := by decide

/-- Settles O11: with RESB low, phases 1 to 3 redirect into the BRK sequence. -/
theorem resetLowTickRestartsTheSequence : Obligations.ResetLowTickRestartsTheSequence := by
  intro c p hf h0 h1 hr
  have htick := (tick_of_edge hf h0 h1).trans (tickEdge_of_redirected (Core.beforeDispatch_of_reset hr) rfl)
  refine ⟨_, _, htick, rfl, (and_resetFlag_eq_iff _).mpr (getLsbD_resetTickFlags c p), flag_setFlag_same _ _ _,
    fun f hfb => flag_setFlag_other _ _ hfb, rfl, rfl, rfl, rfl, rfl, rfl, hf, getAddress_setAddress _ _,
    rwb_stepZero p _, sync_stepZero p _, ?_⟩
  rw [pin_setAddress]
  exact (pinsBeforeDispatch_passed p Pin.resb.bit (by decide)).trans hr

/-- Settles O15: what is recognised decides between a redirection and step 0 of the fetched opcode's program. -/
theorem syncTickHijacksOrAdvances : Obligations.SyncTickHijacksOrAdvances := by
  rintro c p hf h0 h1 hs hr _ _ _ rfl rfl rfl
  obtain ⟨hirq, hnmi, hreset⟩ := getLsbD_recognised c.brkFlags c.irqPip c.nmiPip
  rw [← hirq, ← hnmi, ← hreset]
  constructor
  · intro hpending
    have hflags : recognised c.brkFlags c.irqPip c.nmiPip ≠ 0#3 := fun h => by
      rw [(brkFlags_eq_zero_iff _).mp h] at hpending
      cases hpending
    have htick := tickEdge_of_redirected (Core.beforeDispatch_of_pending hs hr hflags) rfl
    exact ⟨_, _, (tick_of_edge hf h0 h1).trans htick, rfl, rfl, getAddress_setAddress _ _, rwb_stepZero p _,
      sync_stepZero p _, flag_setFlag_same _ _ _, fun f hfb => flag_setFlag_other _ _ hfb, rfl, rfl, rfl, rfl, rfl, rfl⟩
  · intro hquiet hadmitted
    have hflags := (brkFlags_eq_zero_iff _).mpr hquiet
    obtain ⟨program, hprog⟩ := Option.isSome_iff_exists.mp (microProgram_isSome_of_admitted _ hadmitted)
    obtain ⟨pc, hpc, htick⟩ := tickEdge_of_stepZero (Core.beforeDispatch_of_sync hs hr hflags) rfl hprog
    exact ⟨_, _, (tick_of_edge hf h0 h1).trans htick, rfl, getAddress_setAddress _ _,
      by simpa [BitVec.add_assoc] using hpc, rwb_stepZero p _, sync_stepZero p _, rfl, rfl, rfl, rfl, rfl⟩

end Sys2Proof.Machine
end

section
/-! SUPPORT. With every line inactive, what the ticks of an instruction make of the pipelines (`40_engine.md` R93, R94, R97,
R102). -/

namespace Sys2Proof.Machine

/-! ### Ticks inside an instruction -/

/-- From `s` to `t`, `n` ticks inside an instruction have passed, each with every line inactive, and none is scheduled. -/
structure State.QuietTicks (n : Nat) (s t : State) : Prop where
  inputs : t.inputs = []
  irqPip : t.core.irqPip = s.core.irqPip <<< n
  nmiPip : t.core.nmiPip = s.core.nmiPip <<< n

section
variable {m n : Nat} {s t u : State}

theorem State.QuietTicks.trans (h : State.QuietTicks m s t) (h' : State.QuietTicks n t u) :
    State.QuietTicks (m + n) s u where
  inputs := h'.inputs
  irqPip := by rw [h'.irqPip, h.irqPip, BitVec.shiftLeft_add]
  nmiPip := by rw [h'.nmiPip, h.nmiPip, BitVec.shiftLeft_add]

/-- What is no tick may change the rest of the state. -/
theorem State.QuietTicks.of_same (h : State.QuietTicks n s t) (hinputs : u.inputs = t.inputs)
    (hirq : u.core.irqPip = t.core.irqPip) (hnmi : u.core.nmiPip = t.core.nmiPip) : State.QuietTicks n s u where
  inputs := hinputs.trans h.inputs
  irqPip := hirq.trans h.irqPip
  nmiPip := hnmi.trans h.nmiPip

/-- Inactive lines leave no sample, whatever the core is (R93, R94). -/
theorem State.passTick_pipelines_of_quiet (hs : s.inputs = []) (sync : Bool) :
    (s.passTick sync).core.irqPip = agePip (if sync then keepYoung s.core.irqPip else s.core.irqPip) ∧
      (s.passTick sync).core.nmiPip = agePip (if sync then keepYoung s.core.nmiPip else s.core.nmiPip) := by
  simp [State.passTick, State.nextInputs, hs, Inputs.idle, sampleIrq, sampleNmi]

theorem State.passTicks_quiet (n : Nat) (hs : s.inputs = []) : State.QuietTicks n s (s.passTicks n) := by
  induction n generalizing s with
  | zero => exact ⟨hs, (BitVec.shiftLeft_zero _).symm, (BitVec.shiftLeft_zero _).symm⟩
  | succ n ih =>
    have hnext : (s.passTick false).inputs = [] := by simp [hs]
    obtain ⟨hirq, hnmi⟩ := State.passTick_pipelines_of_quiet hs false
    have hfirst : State.QuietTicks 1 s (s.passTick false) := ⟨hnext, hirq, hnmi⟩
    rw [State.passTicks, Nat.add_comm]
    exact hfirst.trans (ih hnext)

/-- A push, or the read a reset makes of it, is no tick. -/
theorem State.QuietTicks.pushOrRead {reset : Bool} {v : Byte} {k : State → Result} (hq : State.QuietTicks n s t)
    (h : t.pushOrRead reset v k = .next u) : ∃ w, State.QuietTicks n s w ∧ k w = .next u := by
  refine ⟨_, ?_, State.pushOrRead_next h⟩
  cases reset
  · exact hq.of_same (State.push_inputs t v) (State.push_irqPip t v) (State.push_nmiPip t v)
  · exact hq.of_same rfl rfl rfl

/-- Steps 1 to 6 of a BRK sequence are six ticks. -/
theorem State.brkSequence_quiet {flags : BitVec 3} (hs : s.inputs = []) (h : s.brkSequence flags = .next t) :
    State.QuietTicks 6 s t := by
  unfold State.brkSequence at h
  obtain ⟨u1, q1, h⟩ := (State.passTicks_quiet 4 hs).pushOrRead h
  obtain ⟨u2, q2, h⟩ := q1.pushOrRead h
  obtain ⟨u3, q3, h⟩ := q2.pushOrRead h
  obtain ⟨l, -, h⟩ := State.readThen_next h
  obtain ⟨b, -, h⟩ := State.readThen_next h
  obtain ⟨-, -, -, hinputs, hcore⟩ := State.fetchNext_next h
  have hlast := State.passTicks_quiet 2
    (s := { u3 with core := { u3.core with p := maskedStatus u3.core.p, brkFlags := 0#3 } }) q3.inputs
  have q6 : State.QuietTicks (4 + 2) s _ := q3.trans ⟨hlast.inputs, hlast.irqPip, hlast.nmiPip⟩
  refine q6.of_same hinputs ?_ ?_ <;> rw [hcore]

end

/-! ### A whole instruction -/

/-- The ticks of an instruction have made of each pipeline its two youngest samples, `n` places on. -/
structure State.Aged (n : Nat) (s t : State) : Prop where
  irqPip : t.core.irqPip = keepYoung s.core.irqPip <<< n
  nmiPip : t.core.nmiPip = keepYoung s.core.nmiPip <<< n

section
variable {n : Nat} {s t u : State}

/-- The SYNC tick keeps the young samples, and the ticks after it move them on (R97, R102). -/
theorem State.QuietTicks.aged (hs : s.inputs = []) (h : State.QuietTicks n (s.passTick true) t) :
    State.Aged (n + 1) s t := by
  obtain ⟨hirq, hnmi⟩ := State.passTick_pipelines_of_quiet hs true
  constructor
  · rw [h.irqPip, hirq, if_pos rfl, agePip, ← BitVec.shiftLeft_add, Nat.add_comm]
  · rw [h.nmiPip, hnmi, if_pos rfl, agePip, ← BitVec.shiftLeft_add, Nat.add_comm]

/-- An instruction that lets its ticks pass and then writes other fields of the core. -/
theorem State.aged_of_core (hs : s.inputs = []) {a p sp : Byte} {pc ad : Word} {ir : IR} {prev : Pins}
    (hc : t.core = { (s.instrTicks (n + 1)).core with
      a := a, p := p, s := sp, pc := pc, ad := ad, ir := ir, pinsPrev := prev }) : State.Aged (n + 1) s t := by
  have hticks : State.QuietTicks n (s.passTick true) (s.instrTicks (n + 1)) := State.passTicks_quiet n (by simp [hs])
  have haged := hticks.aged hs
  constructor <;> rw [hc]
  · exact haged.irqPip
  · exact haged.nmiPip

theorem execBrk_aged (hs : s.inputs = []) (h : execBrk s = .next t) : State.Aged 7 s t := by
  obtain ⟨-, -, h⟩ := State.readThen_next h
  have hq := State.brkSequence_quiet (by simp [hs]) h
  exact State.QuietTicks.aged hs ⟨hq.inputs, hq.irqPip, hq.nmiPip⟩

theorem OperandForm.aged {opcode : Byte} {operands : List Byte} {program : List MicroStep} {meaning : State → Result}
    (hform : OperandForm opcode operands program meaning) (hs : s.inputs = []) (h : meaning s = .next t) :
    State.Aged program.length s t := by
  cases hform with
  | immediate =>
    obtain ⟨-, -, a, p, -, hc⟩ := immediate_next h
    exact State.aged_of_core hs hc
  | absoluteRead =>
    obtain ⟨-, -, v, a, p, -, -, hc⟩ := absoluteRead_next h
    exact State.aged_of_core hs hc
  | absoluteWrite =>
    obtain ⟨-, -, hc⟩ := absoluteWrite_next h
    exact State.aged_of_core hs hc
  | absoluteModify =>
    obtain ⟨-, m, -, -, hc⟩ := absoluteModify_next h
    exact State.aged_of_core hs hc
  | accumulator =>
    obtain ⟨-, -, hc⟩ := accumulator_next h
    exact State.aged_of_core hs hc
  | implied =>
    obtain ⟨-, -, hc⟩ := impliedFlag_next h
    exact State.aged_of_core hs hc
  | jump =>
    obtain ⟨-, -, hc⟩ := execJmp_next h
    exact State.aged_of_core hs hc
  | call =>
    obtain ⟨-, -, b, -, hc⟩ := execJsr_next h
    exact State.aged_of_core hs hc
  | brk => exact execBrk_aged hs h

/-- At most seven ticks push no young sample out of a pipeline. -/
theorem toNat_keepYoung_shiftLeft (hn : n ≤ 7) (pip : BitVec 16) :
    (keepYoung pip <<< n).toNat = pip.toNat % 4 * 2 ^ n := by
  have hyoung : pip.toNat % 4 < 4 := Nat.mod_lt _ (by decide)
  have hfit : pip.toNat % 4 * 2 ^ n < 2 ^ 16 :=
    calc pip.toNat % 4 * 2 ^ n
      _ ≤ 4 * 2 ^ 7 := Nat.mul_le_mul hyoung.le (Nat.pow_le_pow_right (by decide) hn)
      _ < 2 ^ 16 := by decide
  rw [BitVec.toNat_shiftLeft, Nat.shiftLeft_eq, toNat_keepYoung, Nat.mod_eq_of_lt hfit]

end

/-- Settles O37: the pipelines of every operand form as numbers, at a declared length of at most 7. -/
theorem quietLinesAgeThePipelines : Obligations.QuietLinesAgeThePipelines := by
  intro i s t hs h
  obtain ⟨_, program, -, hprog, hform⟩ := hasForm_of_admitted (admitted_of_exec_next h)
  have h7 : program.length ≤ 7 := programTable_length _ (mem_of_lookup hprog)
  have haged := hform.aged hs h
  rw [ticks_of_program hprog, haged.irqPip, haged.nmiPip]
  exact ⟨toNat_keepYoung_shiftLeft h7 _, toNat_keepYoung_shiftLeft h7 _⟩

end Sys2Proof.Machine
end

section
/-! SUPPORT. The conditions of `40_engine.md` R113, read off memory at PC, are those that `step` checks on the data pins. -/

namespace Sys2Proof.Machine

theorem State.RunsWhole.nextInstr {s : State} {i : Instr} (h : s.RunsWhole i) : s.nextInstr = some i := by
  obtain ⟨-, ⟨-, hsync, -, -, hdata⟩, ⟨rest, hdecode⟩, hresb, hquiet⟩ := h
  have hbytes : s.bytesAt 3 s.core.pc = s.instrBytes := by simp [State.bytesAt, State.instrBytes, hdata]
  rw [hbytes] at hdecode
  simp [State.nextInstr, State.fetchQueued, hsync, hquiet, hdecode, hresb]

/-- Settles O42: an instruction that runs whole is its ticks. -/
theorem instructionIsItsTicks : Obligations.InstructionIsItsTicks := by
  intro s i h
  have ⟨hlive, _⟩ := h
  exact exec_cycles hlive h.nextInstr

/-- Settles O45: a step of a live core runs the next whole instruction. -/
theorem stepRunsTheDecodedInstruction : Obligations.StepRunsTheDecodedInstruction := by
  intro s i h
  have ⟨hlive, _⟩ := h
  simp only [step, hlive, h.nextInstr]

end Sys2Proof.Machine
end

section
/-! SUPPORT. The ALU helpers as numbers: each result and each flag it writes (`41_alu.md` R120 to R128). -/

namespace Sys2Proof.Machine

/-! ### `set_nz` and `compare` -/

theorem msb_eq_true_iff (v : Byte) : v.msb = true ↔ 128 ≤ v.toNat := by simp [BitVec.msb_eq_decide]

theorem flag_setNz_z_iff (v p : Byte) : flag (setNz v p) .z = true ↔ v.toNat = 0 := by
  rw [flag_setNz, decide_eq_true_iff, BitVec.toNat_eq]
  rfl

theorem flag_setNz_n_iff (v p : Byte) : flag (setNz v p) .n = true ↔ 128 ≤ v.toNat := by
  rw [flag_setNz, ← msb_eq_true_iff, BitVec.msb_eq_getLsbD_last]

/-- Settles O16: Z and N as facts about one number, which is not both zero and at least 128. -/
theorem setNzLaw : Obligations.SetNzLaw := by
  intro v p
  refine ⟨flag_setNz_z_iff v p, flag_setNz_n_iff v p, fun f hz hn => flag_setNz_other v p (by simp [hz, hn]), ?_⟩
  rw [flag_setNz_z_iff, flag_setNz_n_iff]
  omega

/-- Settles O17: Z and N of `compare` are those of the difference mod 256. -/
theorem compareLaw : Obligations.CompareLaw := by
  intro r v p
  have hv := v.isLt
  refine ⟨by simp [flag_compareFlags], ?_, ?_, fun f => flag_setNz_setCarry_other _ _ _⟩
  · rw [compareFlags, flag_setNz_z_iff, BitVec.toNat_sub, BitVec.toNat_eq]
    omega
  · rw [compareFlags, flag_setNz_n_iff, BitVec.toNat_sub]
    omega

/-! ### Addition and subtraction -/

/-- The bit that both V formulas mask out is the sign (R122, R123). -/
theorem and_signBit_ne_zero_iff (x : Byte) : x &&& 0x80#8 ≠ 0#8 ↔ x.msb = true := by
  have h : x &&& 0x80#8 = if x.getLsbD 7 then 0x80#8 else 0#8 := BitVec.and_twoPow x 7
  rw [h, BitVec.msb_eq_getLsbD_last]
  cases x.getLsbD 7 <;> decide

theorem toNat_adc (a v p : Byte) : (adc a v p).1.toNat = (a.toNat + v.toNat + (flag p .c).toNat) % 256 :=
  BitVec.toNat_ofNat _ _

theorem flag_adc_c_iff (a v p : Byte) :
    flag (adc a v p).2 .c = true ↔ 255 < a.toNat + v.toNat + (flag p .c).toNat := by
  have h : flag (adc a v p).2 .c = decide (255 < adcSum a v p) := by simp [adc, flag_setNz]
  rw [h, decide_eq_true_iff, adcSum]

theorem flag_adc_v_iff (a v p : Byte) :
    flag (adc a v p).2 .v = true ↔ a.msb = v.msb ∧ (adc a v p).1.msb ≠ a.msb := by
  have h : flag (adc a v p).2 .v = decide (~~~ (a ^^^ v) &&& (a ^^^ (adc a v p).1) &&& 0x80#8 ≠ 0#8) := by
    simp [adc, flag_setNz, flag_setFlag]
  rw [h, decide_eq_true_iff, and_signBit_ne_zero_iff]
  simp only [BitVec.msb_and, BitVec.msb_not, BitVec.msb_xor]
  cases a.msb <;> cases v.msb <;> simp

/-- The sign test of R122 is signed overflow. -/
theorem msb_adc_iff_overflow (a v p : Byte) :
    a.msb = v.msb ∧ (adc a v p).1.msb ≠ a.msb ↔
      a.toInt + v.toInt + (flag p .c).toNat < -128 ∨ 127 < a.toInt + v.toInt + (flag p .c).toNat := by
  have hr := toNat_adc a v p
  have hc := (flag p .c).toNat_le
  have ha := a.isLt
  have hv := v.isLt
  simp only [BitVec.msb_eq_decide, ne_eq, decide_eq_decide, hr, BitVec.toInt_eq_toNat_cond]
  omega

theorem opAdc_of_decimal {p : Byte} (h : flag p .d = true) (a v : Byte) : opAdc a p v = none := if_pos h

theorem opAdc_of_binary {p : Byte} (h : flag p .d = false) (a v : Byte) : opAdc a p v = some (adc a v p) := by
  simp [opAdc, h]

theorem opSbc_of_decimal {p : Byte} (h : flag p .d = true) (a v : Byte) : opSbc a p v = none := if_pos h

theorem opSbc_of_binary {p : Byte} (h : flag p .d = false) (a v : Byte) : opSbc a p v = some (sbc a v p) := by
  simp [opSbc, h]

/-- Settles O18: Z and N are those of the sum, V its sign test. -/
theorem adcLaw : Obligations.AdcLaw := by
  intro a v p
  refine ⟨fun hd => opAdc_of_decimal hd a v, fun hd => ?_⟩
  have hop := opAdc_of_binary hd a v
  obtain ⟨hframe, -⟩ := opAdc_writesOnly _ _ _ _ _ hop
  exact ⟨_, _, hop, toNat_adc a v p, flag_adc_c_iff a v p, (flag_adc_v_iff a v p).trans (msb_adc_iff_overflow a v p),
    flag_setNz_z_iff _ _, flag_setNz_n_iff _ _, hframe⟩

/-- The difference is 256 less than the sum with the complement (R123). -/
theorem adcSum_complement (a v p : Byte) : (adcSum a (~~~ v) p : Int) = sbcDiff a v p + 256 := by
  have hv := v.isLt
  simp only [adcSum, sbcDiff, BitVec.toNat_not]
  omega

/-- R123: subtraction is addition of the complement. -/
theorem sbc_eq_adc_complement (a v p : Byte) : sbc a v p = adc a (~~~ v) p := by
  have hsum := adcSum_complement a v p
  have hr : BitVec.ofInt 8 (sbcDiff a v p) = BitVec.ofNat 8 (adcSum a (~~~ v) p) := by
    rw [← BitVec.ofInt_natCast, hsum, BitVec.ofInt_add]
    exact (BitVec.add_zero _).symm
  have hc : 0 ≤ sbcDiff a v p ↔ 0xFF < adcSum a (~~~ v) p := by omega
  have hv : ~~~ (a ^^^ ~~~ v) = a ^^^ v := by rw [← BitVec.not_xor_right, BitVec.not_not]
  simp only [sbc, adc, hr, hc, hv]

/-- Settles O20: the exclusive or with 0xFF is the complement. -/
theorem sbcIsAdcOfTheComplement : Obligations.SbcIsAdcOfTheComplement := by
  intro a v p
  have hv : v ^^^ 0xFF#8 = ~~~ v := BitVec.xor_allOnes
  rw [hv, opSbc, opAdc, sbc_eq_adc_complement]

/-- Settles O19: the laws of the sum with the complement. -/
theorem sbcLaw : Obligations.SbcLaw := by
  intro a v p
  refine ⟨fun hd => opSbc_of_decimal hd a v, fun hd => ?_⟩
  have hop := opSbc_of_binary hd a v
  rw [sbc_eq_adc_complement] at hop
  obtain ⟨hframe, -⟩ := opSbc_writesOnly _ _ _ _ _ hop
  have hv := v.isLt
  have hcarry := (flag p .c).toNat_le
  refine ⟨(adc a (~~~ v) p).1, (adc a (~~~ v) p).2, hop, ?_, ?_, ?_, flag_setNz_z_iff _ _, flag_setNz_n_iff _ _, hframe⟩
  · rw [toNat_adc, BitVec.toNat_not]
    omega
  · rw [flag_adc_c_iff, BitVec.toNat_not]
    omega
  · rw [flag_adc_v_iff, BitVec.msb_not]
    cases a.msb <;> simp

/-! ### Shifts -/

/-- Bit 0 of a left shift is free for the carry (R127). -/
theorem shiftLeft_or_carry (v : Byte) (c : Bool) :
    (v <<< 1 ||| (BitVec.ofBool c).setWidth 8).toNat = (2 * v.toNat + c.toNat) % 256 := by
  have hfree : v <<< 1 &&& (BitVec.ofBool c).setWidth 8 = 0#8 := by
    cases c
    · exact BitVec.and_zero
    · exact (BitVec.and_twoPow (v <<< 1) 0).trans (by simp)
  have hcarry := c.toNat_le
  rw [← BitVec.add_eq_or_of_and_eq_zero _ _ hfree, BitVec.toNat_add, BitVec.toNat_shiftLeft, BitVec.toNat_setWidth,
    BitVec.toNat_ofBool, Nat.shiftLeft_eq]
  omega

/-- Bit 7 of a right shift is free for the carry (R128). -/
theorem shiftRight_or_carry (v : Byte) (c : Bool) :
    (v >>> 1 ||| (BitVec.ofBool c).setWidth 8 <<< 7).toNat = v.toNat / 2 + 128 * c.toNat := by
  have hfree : v >>> 1 &&& (BitVec.ofBool c).setWidth 8 <<< 7 = 0#8 := by
    cases c
    · exact BitVec.and_zero
    · exact (BitVec.and_twoPow (v >>> 1) 7).trans (by simp)
  have hcarry := c.toNat_le
  have hv := v.isLt
  rw [← BitVec.add_eq_or_of_and_eq_zero _ _ hfree, BitVec.toNat_add, BitVec.toNat_ushiftRight, BitVec.toNat_shiftLeft,
    BitVec.toNat_setWidth, BitVec.toNat_ofBool, Nat.shiftLeft_eq, Nat.shiftRight_eq_div_pow]
  omega

theorem flag_setNz_setCarry_c (r p : Byte) (c : Bool) : flag (setNz r (setFlag p .c c)) .c = c := by
  simp [flag_setNz]

/-- A left shift carries bit 7 out. -/
theorem carry_top_iff (r v p : Byte) : flag (setNz r (setFlag p .c (v.getLsbD 7))) .c = true ↔ 128 ≤ v.toNat := by
  rw [flag_setNz_setCarry_c, ← msb_eq_true_iff, BitVec.msb_eq_getLsbD_last]

/-- A right shift carries bit 0 out. -/
theorem carry_bottom_iff (r v p : Byte) : flag (setNz r (setFlag p .c (v.getLsbD 0))) .c = true ↔ v.toNat % 2 = 1 := by
  rw [flag_setNz_setCarry_c, BitVec.getLsbD, Nat.testBit_zero, decide_eq_true_iff]

/-- Settles O21: every shift ends with `set_nz` of its result after writing C. -/
theorem shiftLaws : Obligations.ShiftLaws := by
  intro v p
  refine ⟨⟨?_, carry_top_iff _ v p⟩, ⟨?_, carry_bottom_iff _ v p⟩, ⟨shiftLeft_or_carry v _, carry_top_iff _ v p⟩,
    ⟨shiftRight_or_carry v _, carry_bottom_iff _ v p⟩, ?_⟩
  · simp [asl, BitVec.toNat_shiftLeft, Nat.shiftLeft_eq, Nat.mul_comm]
  · simp [lsr, Nat.shiftRight_eq_div_pow]
  · simp only [List.forall_mem_cons]
    exact ⟨⟨flag_setNz_z_iff _ _, flag_setNz_n_iff _ _, asl_writesOnly v p⟩,
      ⟨flag_setNz_z_iff _ _, flag_setNz_n_iff _ _, lsr_writesOnly v p⟩,
      ⟨flag_setNz_z_iff _ _, flag_setNz_n_iff _ _, rol_writesOnly v p⟩,
      ⟨flag_setNz_z_iff _ _, flag_setNz_n_iff _ _, ror_writesOnly v p⟩, nofun⟩

end Sys2Proof.Machine
end

section
/-! SUPPORT. ADC and SBC with D set: the execute step faults, at the instruction level, in its tick, and in the cycle that the
instruction's ticks lead to (`41_alu.md` R126, `60_exceptions.md` R211, `40_engine.md` R112). -/

namespace Sys2Proof.Machine

/-! ### At the instruction level -/

theorem immediate_of_none {op : ReadOp} {v : Byte} {s : State} (hop : op s.core.a s.core.p v = none) (opcode : Byte) :
    immediate opcode op v s = .fault (.engine (.decimalModeUnsupported opcode 1#3)) := by
  simp [immediate, hop]

theorem absoluteRead_of_none {op : ReadOp} {addr : Word} {s : State} (hop : ∀ v, op s.core.a s.core.p v = none)
    (hmapped : s.Mapped addr) (opcode : Byte) :
    absoluteRead opcode op addr s = .fault (.engine (.decimalModeUnsupported opcode 3#3)) := by
  have hread := State.instrTicks_readByte 4 s addr
  rw [absoluteRead, State.readThen_of_some (hread.trans (State.readByte_of_mapped hmapped))]
  simp [hop]

/-! ### The tick that faults -/

theorem executeReadStep_of_none {op : ReadOp} {c : Core} (hop : ∀ v, op c.a c.p v = none) (p : Pins) :
    executeReadStep op c p = .error (.decimalModeUnsupported c.ir.opcode c.ir.step) := by
  simp [executeReadStep, hop]

/-- ADC's and SBC's execute steps, step 1 immediate and step 3 absolute (R107, R108), fault with D set (R126). -/
theorem exists_executeReadStep_of_arithmetic {ir : IR} (h : ir ∈ [⟨0x69#8, 1#3⟩, ⟨0xE9#8, 1#3⟩, ⟨0x6D#8, 3#3⟩, ⟨0xED#8, 3#3⟩]) :
    ∃ op, StepAt ir.opcode ir.step (executeReadStep op) true ∧ ∀ {p}, flag p .d = true → ∀ a v, op a p v = none := by
  simp only [List.mem_cons, List.not_mem_nil, or_false] at h
  rcases h with rfl | rfl | rfl | rfl
  · exact ⟨opAdc, ⟨_, rfl, rfl, rfl⟩, opAdc_of_decimal⟩
  · exact ⟨opSbc, ⟨_, rfl, rfl, rfl⟩, opSbc_of_decimal⟩
  · exact ⟨opAdc, ⟨_, rfl, rfl, rfl⟩, opAdc_of_decimal⟩
  · exact ⟨opSbc, ⟨_, rfl, rfl, rfl⟩, opSbc_of_decimal⟩

/-- In the middle of an instruction phases 1 to 3 are the detectors, and an execute step that faults leaves what they made
of the core, with the mark set (R112). -/
theorem tick_of_decimal {c : Core} {p : Pins} {op : ReadOp} {last : Bool} (hf : c.fault = none)
    (h0 : pin c.pinsPrev .phi2 = false) (h1 : pin p .phi2 = true) (hs : pin p .sync = false) (hr : pin p .resb = true)
    (hstep : StepAt c.ir.opcode c.ir.step (executeReadStep op) last) (hop : ∀ v, op c.a c.p v = none) :
    tick c p = .raised (.decimalModeUnsupported c.ir.opcode c.ir.step)
      { c.detect p with fault := some (.decimalModeUnsupported c.ir.opcode c.ir.step) } := by
  obtain ⟨program, hprog, hget, -⟩ := hstep
  have hbefore := Core.beforeDispatch_of_inside (c := c) hs hr
  rw [tick_of_edge hf h0 h1, ← hbefore]
  refine tickEdge_of_error ?_
  rw [hbefore, dispatch_of_program (c := c.detect p) hprog hget]
  exact executeReadStep_of_none (c := c.detect p) hop _

/-! ### The cycle that faults -/

/-- A system cycle whose dispatch faults leaves the core it was given, with the mark set (R112, R212). -/
theorem State.coreAfterCycle_of_error {s : State} {f : EngineFault} (hlive : s.core.fault = none)
    (herror : dispatch s.dispatchCore s.tickPins = .error f) :
    s.coreAfterCycle = { s.dispatchCore with fault := some f } := by
  have hlow := tick_of_no_edge (p := drive s.pins .phi2 false) hlive (by simp [risingEdge])
  rw [pin_drive_same] at hlow
  have hhigh := (tick_of_edge (c := { s.core with pinsPrev := drive s.core.pinsPrev .phi2 false })
    (p := presentInputs (drive s.pins .phi2 false) s.nextInputs) hlive (by simp) (by simp [pin_presentInputs])).trans
    (tickEdge_of_error herror)
  simp only [State.coreAfterCycle, hlow, hhigh]
  rfl

/-- The cycle of `t` raises the decimal-mode fault, and the core it leaves has the registers and pending flags of `s`, where
the instruction started, but for PC and AD. -/
abbrev State.DecimalFault (s t : State) (opcode : Byte) (k : BitVec 3) (pc ad : Word) : Prop :=
  t.cycle = .fault (.engine (.decimalModeUnsupported opcode k)) ∧
    t.coreAfterCycle.a = s.core.a ∧ t.coreAfterCycle.p = s.core.p ∧ t.coreAfterCycle.x = s.core.x ∧
    t.coreAfterCycle.y = s.core.y ∧ t.coreAfterCycle.s = s.core.s ∧ t.coreAfterCycle.pc = pc ∧
    t.coreAfterCycle.ad = ad ∧ t.coreAfterCycle.ir = ⟨opcode, k⟩ ∧ t.coreAfterCycle.brkFlags = s.core.brkFlags ∧
    t.coreAfterCycle.fault = some (.decimalModeUnsupported opcode k)

/-- An execute step that faults ends the run in its cycle, and leaves the registers as the earlier ticks made them. -/
theorem State.Runs.decimalFault {m n j : Nat} {opcode : Byte} {k : BitVec 3} {pc ad : Word} {s t : State} {op : ReadOp}
    {last : Bool} (h : State.Runs m n opcode k pc ad (s.instrTicks j) t)
    (hstep : StepAt opcode k (executeReadStep op) last) (hop : ∀ v, op s.core.a s.core.p v = none) :
    s.DecimalFault t opcode k pc ad := by
  have herror : dispatch t.dispatchCore t.tickPins = .error (.decimalModeUnsupported opcode k) := by
    rw [h.dispatch_eq hstep, executeReadStep_of_none (by simpa [h.core_a, h.core_p] using hop), h.core_ir]
  refine ⟨State.cycle_of_error h.live herror, ?_⟩
  rw [State.coreAfterCycle_of_error h.live herror, h.core]
  simp

/-! ### The ticks that lead to it -/

/-- A read step that writes PC and AD alone, where the map answers: the cycle it is, and the state it leads to. -/
theorem State.Runs.readStep_cycle {m n : Nat} {opcode : Byte} {k : BitVec 3} {pc ad pc' ad' a : Word} {b : Byte}
    {u s : State} {f : MicroStep} (h : State.Runs (m + 2) (n + 1) opcode k pc ad u s) (hstep : StepAt opcode k f false)
    (hok : f s.dispatchCore s.tickPins =
      .ok ({ s.dispatchCore with pc := pc', ad := ad' }, setAddress s.tickPins a)) (hb : u.readByte a = some b) :
    ∃ t, s.cycle = .next t ∧ getData t.pins = b ∧ State.Runs (m + 1) n opcode (k + 1#3) pc' ad' u t := by
  have hok' : f s.dispatchCore s.tickPins =
      .ok ({ s.dispatchCore with s := u.core.s, p := u.core.p, brkFlags := u.core.brkFlags, pc := pc', ad := ad' },
        setAddress s.tickPins a) := by
    rw [hok, ← h.core_s, ← h.core_p, ← h.core_brkFlags]
  have hread := (h.readByte a).trans hb
  refine ⟨_, (h.cycle_of_ok hstep hok').trans (State.serve_read (by simp) ?_), getData_setData _ _, ?_⟩
  · rw [getAddress_setAddress]
    exact hread
  exact h.next hstep hok' (.inr rfl) rfl rfl (pin_setData _ _ _) (fun j hj => passed_setData _ _ _ hj) h.mem h.map rfl
    (.withRegisters u _ _ _)

theorem State.instrTicks_byteAddress (n : Nat) (s : State) (j : Word) :
    (s.instrTicks n).byteAddress j = s.core.pc + j := by
  simp [State.byteAddress]

/-- The first tick of an instruction with an operand reads the operand byte. -/
theorem State.Fetched.operand_cycle {m : Nat} {opcode b : Byte} {s : State} (h : s.Fetched opcode (m + 2))
    (hstep : StepAt opcode 0#3 operandStep false) (hb : s.readByte (s.core.pc + 1#16) = some b) :
    ∃ t, s.cycle = .next t ∧ getData t.pins = b ∧
      State.Runs (m + 1) (m + 1) opcode 1#3 (s.core.pc + 2#16) s.core.ad (s.instrTicks (m + 2)) t := by
  have hruns := h.runs (m + 1)
  rw [State.instrTicks_byteAddress, State.instrTicks_ad] at hruns
  refine hruns.readStep_cycle hstep (a := s.core.pc + 1#16) (ad' := s.core.ad) ?_ (by simpa using hb)
  rw [operandStep, hruns.core_pc, ← hruns.core_ad, BitVec.add_assoc]
  rfl

/-- The first three ticks of an absolute read instruction read the operand bytes, then the operand (R108). -/
theorem State.Fetched.absolute_cycles {m : Nat} {opcode : Byte} {addr : Word} {s : State} {op : ReadOp}
    (h : s.Fetched opcode (m + 4)) (hprog : microProgram opcode = some (absReadProgram op))
    (hl : s.readByte (s.core.pc + 1#16) = some (lo addr)) (hh : s.readByte (s.core.pc + 2#16) = some (hi addr))
    (hmapped : s.Mapped addr) :
    ∃ t, s.cycles 3 = .next t ∧
      State.Runs (m + 1) (m + 1) opcode 3#3 (s.core.pc + 3#16) addr (s.instrTicks (m + 4)) t := by
  obtain ⟨t1, e1, d1, h1⟩ := h.operand_cycle (m := m + 2) ⟨_, hprog, rfl, rfl⟩ hl
  obtain ⟨t2, e2, d2, h2⟩ := h1.readStep_cycle (f := operandHighStep) ⟨_, hprog, rfl, rfl⟩
    (by rw [operandHighStep, State.getData_tickPins, d1, h1.core_pc]) (by simpa using hh)
  have ha : t2.dispatchCore.assembled t2.tickPins = addr := by rw [h2.assembled d2, join_hi_lo]
  obtain ⟨t3, e3, -, h3⟩ := h2.readStep_cycle (f := readEffectiveStep) ⟨_, hprog, rfl, rfl⟩
    (by rw [readEffectiveStep, ha])
    ((State.instrTicks_readByte _ _ _).trans (State.readByte_of_mapped hmapped))
  refine ⟨t3, ?_, by simpa [BitVec.add_assoc, h2.core_pc] using h3⟩
  rw [State.cycles_succ_of_next _ e1, State.cycles_succ_of_next _ e2, State.cycles_succ_of_next _ e3]
  rfl

/-- What the ticks of an instruction that runs whole start from: its opcode is fetched, and its operand bytes stand after
PC (`40_engine.md` R113, `30_encoding.md` R70). -/
theorem State.RunsWhole.fetched {s : State} {i : Instr} {operands : List Byte} {program : List MicroStep}
    (h : s.RunsWhole i) (henc : encode i = i.opcode :: operands) (hprog : microProgram i.opcode = some program) :
    s.Fetched i.opcode program.length ∧
      ∀ k b, operands[k]? = some b → s.readByte (s.core.pc + 1#16 + BitVec.ofNat 16 k) = some b := by
  obtain ⟨hsync, hpending, hresb, rest, hbytes⟩ := State.nextInstr_eq_some h.nextInstr
  obtain ⟨hlive, _⟩ := h
  rw [henc, State.instrBytes, List.cons_append, List.cons.injEq] at hbytes
  obtain ⟨hdata, hbytes⟩ := hbytes
  rw [ticks_of_program hprog] at hresb
  refine ⟨⟨hlive, hsync, hdata.symm, hpending, hresb⟩, fun k b hb => State.readByte_of_bytesAt (n := 2) ?_⟩
  rw [← hbytes, List.getElem?_append_left (List.getElem?_eq_some_iff.mp hb).1, hb]

section
variable {i : Instr} {s : State} {op : ReadOp} (h : s.RunsWhole i) (hop : ∀ v, op s.core.a s.core.p v = none)
include h hop

theorem immediate_decimalFault {v : Byte} (henc : encode i = [i.opcode, v])
    (hprog : microProgram i.opcode = some (immProgram op)) :
    ∃ u, s.cycles 1 = .next u ∧ s.DecimalFault u i.opcode 1#3 (s.core.pc + 2#16) s.core.ad := by
  obtain ⟨hfetched, hoperands⟩ := h.fetched henc hprog
  obtain ⟨t, e, -, ht⟩ := hfetched.operand_cycle (m := 0) ⟨_, hprog, rfl, rfl⟩ (by simpa using hoperands 0 v rfl)
  exact ⟨t, s.cycles_one.trans e, ht.decimalFault ⟨_, hprog, rfl, rfl⟩ hop⟩

theorem absoluteRead_decimalFault {addr : Word} (henc : encode i = [i.opcode, lo addr, hi addr])
    (hprog : microProgram i.opcode = some (absReadProgram op)) (hmapped : s.Mapped addr) :
    ∃ u, s.cycles 3 = .next u ∧ s.DecimalFault u i.opcode 3#3 (s.core.pc + 3#16) addr := by
  obtain ⟨hfetched, hoperands⟩ := h.fetched henc hprog
  obtain ⟨t, e, ht⟩ := hfetched.absolute_cycles (m := 0) hprog (by simpa using hoperands 0 _ rfl)
    (by simpa [BitVec.add_assoc] using hoperands 1 _ rfl) hmapped
  exact ⟨t, e, ht.decimalFault ⟨_, hprog, rfl, rfl⟩ hop⟩

end

/-- Settles O25: the fault of each form at the instruction level, of the tick, and of the cycle that each form leads to. -/
theorem decimalModeFaults : Obligations.DecimalModeFaults := by
  refine ⟨fun addr v s hd => ?_, fun c p hf h0 h1 hs hr hd hir => ?_, fun v s hd => ?_, fun addr s hd hmapped => ?_⟩
  · have hadc := opAdc_of_decimal hd s.core.a
    have hsbc := opSbc_of_decimal hd s.core.a
    exact ⟨immediate_of_none (hadc v) _, immediate_of_none (hsbc v) _, fun hmapped =>
      ⟨absoluteRead_of_none hadc hmapped _, absoluteRead_of_none hsbc hmapped _⟩⟩
  · obtain ⟨op, hstep, hop⟩ := exists_executeReadStep_of_arithmetic hir
    exact ⟨_, tick_of_decimal hf h0 h1 hs hr hstep (hop hd c.a), rfl, rfl, rfl, rfl, rfl, rfl, rfl, rfl, rfl, rfl, rfl,
      rfl, rfl⟩
  · simp only [List.forall_mem_cons]
    exact ⟨fun h => immediate_decimalFault h (opAdc_of_decimal hd _) rfl rfl,
      fun h => immediate_decimalFault h (opSbc_of_decimal hd _) rfl rfl, nofun⟩
  · simp only [List.forall_mem_cons]
    exact ⟨fun h => absoluteRead_decimalFault h (opAdc_of_decimal hd _) rfl rfl hmapped,
      fun h => absoluteRead_decimalFault h (opSbc_of_decimal hd _) rfl rfl hmapped, nofun⟩

end Sys2Proof.Machine
end

section
/-! SUPPORT. How an instruction that answers completes: the state its last fetch leaves, then each read form and the store
template, wherever the addresses they read are mapped (`40_engine.md` R107 to R109, R113; `20_memory.md` R58). -/

namespace Sys2Proof.Machine

/-! ### The last fetch -/

/-- An instruction consumes one entry of the schedule per tick. -/
theorem State.instrTicks_inputs (n : Nat) (s : State) : (s.instrTicks (n + 1)).inputs = s.inputs.drop (n + 1) := by
  simp [State.instrTicks, State.passTicks_inputs, List.drop_tail]

/-- An instruction of `n + 1` ticks that writes these registers and then fetches at `pc`, where `pc` is mapped. -/
theorem State.fetchNext_ends {s u : State} {n : Nat} {a p sp : Byte} {pc ad : Word}
    (hcore : u.core = { (s.instrTicks (n + 1)).core with a := a, p := p, s := sp, pc := pc, ad := ad })
    (hmap : u.map = s.map) (hinputs : u.inputs = (s.instrTicks (n + 1)).inputs) (hmapped : s.Mapped pc)
    (opcode bus : Byte) :
    ∃ t, u.fetchNext opcode (BitVec.ofNat 3 (n + 1)) bus = .next t ∧ (∀ b, t.readByte b = u.readByte b) ∧
      t.core.a = a ∧ t.core.p = p ∧ t.core.s = sp ∧ t.core.ad = ad ∧ t.core.brkFlags = s.core.brkFlags ∧
      s.Ends t opcode (n + 1) pc := by
  have hpc : u.core.pc = pc := by rw [hcore]
  have hfetch := State.fetchNext_of_some opcode (BitVec.ofNat 3 (n + 1)) bus
    (State.readByte_of_mapped (s := u) (a := u.core.pc) (by rw [hmap, hpc]; exact hmapped))
  obtain ⟨hstarts, -⟩ := State.fetchNext_next hfetch
  refine ⟨_, hfetch, fun _ => rfl, ?_, ?_, ?_, ?_, ?_, hpc ▸ hstarts, rfl, ?_,
    hinputs.trans (s.instrTicks_inputs n), ?_, ?_, ?_, hmap⟩ <;> simp [hcore]

/-! ### The read forms -/

/-- A read instruction that starts in `s` has completed in `t`: A and P are as given, AD is `ad`, the next instruction starts
at `pc`, and S, the pending flags and all of memory are unchanged. -/
abbrev State.CompletesRead (s t : State) (a p : Byte) (ad : Word) (opcode : Byte) (len : Nat) (pc : Word) : Prop :=
  t.core.a = a ∧ t.core.p = p ∧ t.core.s = s.core.s ∧ t.core.ad = ad ∧ t.core.brkFlags = s.core.brkFlags ∧
    s.SameMemory t ∧ s.Ends t opcode len pc

section
variable {op : ReadOp} {v a p : Byte} {s : State} (hop : op s.core.a s.core.p v = some (a, p))
include hop

theorem immediate_completes (hmapped : s.Mapped (s.core.pc + 2#16)) (opcode : Byte) :
    ∃ t, immediate opcode op v s = .next t ∧ s.CompletesRead t a p s.core.ad opcode 2 (s.core.pc + 2#16) := by
  obtain ⟨t, ht, hread, ha, hp, hs, had, hflags, hends⟩ := State.fetchNext_ends
    (u := { s.instrTicks 2 with core := { (s.instrTicks 2).core with a := a, p := p, pc := s.core.pc + 2#16 } })
    rfl (s.instrTicks_map 2) rfl hmapped opcode v
  refine ⟨t, ?_, ha, hp, by simpa using hs, by simpa using had, hflags,
    fun b => (hread b).trans (s.instrTicks_readByte 2 b), hends⟩
  simpa [immediate, hop, State.byteAddress] using ht

theorem absoluteRead_completes {addr : Word} (hv : s.readByte addr = some v)
    (hmapped : s.Mapped (s.core.pc + 3#16)) (opcode : Byte) :
    ∃ t, absoluteRead opcode op addr s = .next t ∧ s.CompletesRead t a p addr opcode 4 (s.core.pc + 3#16) := by
  obtain ⟨t, ht, hread, ha, hp, hs, had, hflags, hends⟩ := State.fetchNext_ends
    (u := { s.instrTicks 4 with core := { (s.instrTicks 4).core with
      a := a, p := p, ad := addr, pc := s.core.pc + 3#16 } })
    rfl (s.instrTicks_map 4) rfl hmapped opcode v
  refine ⟨t, ?_, ha, hp, by simpa using hs, had, hflags, fun b => (hread b).trans (s.instrTicks_readByte 4 b), hends⟩
  rw [absoluteRead, State.readThen_of_some ((s.instrTicks_readByte 4 addr).trans hv)]
  simpa [hop, State.byteAddress] using ht

end

/-- Settles O22: the immediate template, with each operation's result. -/
theorem immediateReadsComplete : Obligations.ImmediateReadsComplete := fun _ _ hmapped =>
  ⟨immediate_completes (op := opLda) rfl hmapped _, immediate_completes (op := opOra) rfl hmapped _,
    immediate_completes (op := opAnd) rfl hmapped _, immediate_completes (op := opEor) rfl hmapped _,
    immediate_completes (op := opCmp) rfl hmapped _⟩

/-- Settles O23: the absolute read template, with each operation's result. -/
theorem absoluteReadsComplete : Obligations.AbsoluteReadsComplete := fun _ _ _ hv hmapped =>
  ⟨absoluteRead_completes (op := opLda) rfl hv hmapped _, absoluteRead_completes (op := opOra) rfl hv hmapped _,
    absoluteRead_completes (op := opAnd) rfl hv hmapped _, absoluteRead_completes (op := opEor) rfl hv hmapped _,
    absoluteRead_completes (op := opCmp) rfl hv hmapped _⟩

/-! ### The store -/

/-- The ticks of an instruction do not change what a write makes of memory. -/
theorem State.readByte_writeByte_instrTicks (n : Nat) (s : State) (a : Word) (v : Byte) (b : Word) :
    ((s.instrTicks n).writeByte a v).readByte b = (s.writeByte a v).readByte b :=
  State.readByte_congr (by simp) (State.writeByte_mem_congr (s.instrTicks_map n) (s.instrTicks_mem n) a v) b

/-- A write stores its byte, or is dropped (`20_memory.md` R58). -/
theorem State.stored_writeByte (s : State) (a : Word) (v : Byte) : s.Stored (s.writeByte a v) a v :=
  ⟨fun hwf hram => State.readByte_writeByte_same v hram hwf, fun hrom => State.readByte_writeByte_rom s a v hrom⟩

/-- The location is not read, so `addr` need not be mapped (R109). -/
theorem absoluteWrite_completes {addr : Word} {s : State} (hmapped : s.Mapped (s.core.pc + 3#16)) (opcode v : Byte) :
    ∃ t, absoluteWrite opcode v addr s = .next t ∧ s.Stored t addr v ∧ s.SameMemoryBut t [addr] ∧
      t.core.a = s.core.a ∧ t.core.p = s.core.p ∧ t.core.s = s.core.s ∧ t.core.ad = addr ∧
      t.core.brkFlags = s.core.brkFlags ∧ s.Ends t opcode 4 (s.core.pc + 3#16) := by
  obtain ⟨t, ht, hread, hregisters⟩ := State.fetchNext_ends (n := 3) (a := s.core.a) (p := s.core.p) (sp := s.core.s)
    (u := { (s.instrTicks 4).writeByte addr v with core := { ((s.instrTicks 4).writeByte addr v).core with
      ad := addr, pc := s.core.pc + 3#16 } })
    (ad := addr) (by simp) (by simp) (by simp) hmapped opcode v
  have hmem : ∀ b, t.readByte b = (s.writeByte addr v).readByte b := fun b =>
    (hread b).trans (State.readByte_writeByte_instrTicks 4 s addr v b)
  refine ⟨t, by simpa [absoluteWrite, State.byteAddress] using ht, ?_, fun b hb => ?_, hregisters⟩
  · simpa only [State.Stored, hmem] using s.stored_writeByte addr v
  · rw [hmem, State.readByte_writeByte_other s v (by simpa using hb)]

/-- Settles O26: the store template, with A as the byte. -/
theorem storeAccumulatorCompletes : Obligations.StoreAccumulatorCompletes := fun _ _ hmapped =>
  absoluteWrite_completes hmapped _ _

end Sys2Proof.Machine
end

section
/-! SUPPORT. ADC and SBC in binary mode complete as the other read forms do, with A and P the two parts of what the helper
answers (`43_logic_arith.md` R146 to R149, `41_alu.md` R122, R123). -/

namespace Sys2Proof.Machine

/-- Where an operation answers the pair `r`, the immediate form writes it to A and P and leaves the rest. -/
theorem immediate_completes_pair {op : ReadOp} {v : Byte} {r : Byte × Byte} {s : State}
    (hop : op s.core.a s.core.p v = some r) (hmapped : s.Mapped (s.core.pc + 2#16)) (opcode : Byte) :
    ∃ t, immediate opcode op v s = .next t ∧ (t.core.a, t.core.p) = r ∧ t.core.s = s.core.s ∧ t.core.ad = s.core.ad ∧
      t.core.brkFlags = s.core.brkFlags ∧ s.SameMemory t ∧ s.Ends t opcode 2 (s.core.pc + 2#16) := by
  obtain ⟨t, ht, ha, hp, hrest⟩ := immediate_completes (a := r.1) (p := r.2) hop hmapped opcode
  exact ⟨t, ht, Prod.ext ha hp, hrest⟩

/-- Where an operation answers the pair `r`, the absolute form writes it to A and P and leaves the rest. -/
theorem absoluteRead_completes_pair {op : ReadOp} {addr : Word} {v : Byte} {r : Byte × Byte} {s : State}
    (hop : op s.core.a s.core.p v = some r) (hv : s.readByte addr = some v) (hmapped : s.Mapped (s.core.pc + 3#16))
    (opcode : Byte) :
    ∃ t, absoluteRead opcode op addr s = .next t ∧ (t.core.a, t.core.p) = r ∧ t.core.s = s.core.s ∧ t.core.ad = addr ∧
      t.core.brkFlags = s.core.brkFlags ∧ s.SameMemory t ∧ s.Ends t opcode 4 (s.core.pc + 3#16) := by
  obtain ⟨t, ht, ha, hp, hrest⟩ := absoluteRead_completes (a := r.1) (p := r.2) hop hv hmapped opcode
  exact ⟨t, ht, Prod.ext ha hp, hrest⟩

/-- Settles O24: the read templates, where D clear makes the operations answer `adc` and `sbc`. -/
theorem addAndSubtractComplete : Obligations.AddAndSubtractComplete :=
  ⟨fun v _ hd hmapped =>
    ⟨immediate_completes_pair (opAdc_of_binary hd _ v) hmapped _,
      immediate_completes_pair (opSbc_of_binary hd _ v) hmapped _⟩,
    fun _ v _ hd hv hmapped =>
    ⟨absoluteRead_completes_pair (opAdc_of_binary hd _ v) hv hmapped _,
      absoluteRead_completes_pair (opSbc_of_binary hd _ v) hv hmapped _⟩⟩

end Sys2Proof.Machine
end

section
/-! SUPPORT. How the shift and rotate instructions complete: the accumulator template, which reads and discards the byte
after the opcode, and the read-modify-write template, which stores twice at its operand's address
(`44_shift_rotate.md` R160 to R167, `40_engine.md` R106, R110). -/

namespace Sys2Proof.Machine

/-! ### The accumulator -/

/-- The byte that the template reads and discards is the next opcode, so one mapped address is enough (R106). -/
theorem accumulator_completes {s : State} (hmapped : s.Mapped (s.core.pc + 1#16)) (opcode : Byte) (op : ShiftOp) :
    ∃ t, accumulator opcode op s = .next t ∧ (t.core.a, t.core.p) = op s.core.a s.core.p ∧ t.core.s = s.core.s ∧
      t.core.ad = s.core.ad ∧ t.core.brkFlags = s.core.brkFlags ∧ s.SameMemory t ∧
      s.Ends t opcode 2 (s.core.pc + 1#16) := by
  have hdiscarded := State.readByte_of_mapped hmapped
  obtain ⟨t, ht, hread, ha, hp, hs, had, hflags, hends⟩ := State.fetchNext_ends
    (u := { s.instrTicks 2 with core := { (s.instrTicks 2).core with
      a := (op s.core.a s.core.p).1, p := (op s.core.a s.core.p).2, pc := s.core.pc + 1#16 } })
    rfl (s.instrTicks_map 2) rfl hmapped opcode (s.mem.read (s.core.pc + 1#16).toNat)
  refine ⟨t, ?_, Prod.ext ha hp, by simpa using hs, by simpa using had, hflags,
    fun b => (hread b).trans (s.instrTicks_readByte 2 b), hends⟩
  rw [accumulator, State.instrTicks_byteAddress, State.readThen_of_some ((s.instrTicks_readByte 2 _).trans hdiscarded)]
  simpa using ht

/-- Settles O27: the accumulator template, with each shift as the operation. -/
theorem accumulatorShiftsComplete : Obligations.AccumulatorShiftsComplete := by
  intro s hmapped
  simp only [List.forall_mem_cons]
  exact ⟨accumulator_completes hmapped _ asl, accumulator_completes hmapped _ rol, accumulator_completes hmapped _ lsr,
    accumulator_completes hmapped _ ror, nofun⟩

/-! ### The read-modify-write -/

/-- The unmodified byte and then the result are stored at one address: what counts there is the second store (R110). -/
theorem State.stored_writeByte_writeByte (s : State) (a : Word) (m v : Byte) :
    s.Stored ((s.writeByte a m).writeByte a v) a v := by
  have hmap := s.writeByte_map a m
  obtain ⟨hram, hrom⟩ := (s.writeByte a m).stored_writeByte a v
  rw [State.Writable, hmap] at hram hrom
  exact ⟨fun hwf => hram (State.writeByte_wf a m hwf), fun h => (hrom h).trans (s.readByte_writeByte_rom a m h)⟩

/-- The ticks of an instruction do not change what its two stores make of memory. -/
theorem State.readByte_writeByte_writeByte_instrTicks (n : Nat) (s : State) (a : Word) (m v : Byte) (b : Word) :
    (((s.instrTicks n).writeByte a m).writeByte a v).readByte b = ((s.writeByte a m).writeByte a v).readByte b :=
  State.readByte_congr (by simp) (State.writeByte_mem_congr (by simp)
    (State.writeByte_mem_congr (s.instrTicks_map n) (s.instrTicks_mem n) a m) a v) b

/-- Both stores are dropped where `addr` is not RAM, and P is that of the result all the same (R110; `20_memory.md`
R58). -/
theorem absoluteModify_completes {addr : Word} {m : Byte} {s : State} (hm : s.readByte addr = some m)
    (hmapped : s.Mapped (s.core.pc + 3#16)) (opcode : Byte) (op : ShiftOp) :
    ∃ t, absoluteModify opcode op addr s = .next t ∧ s.Stored t addr (op m s.core.p).1 ∧
      t.core.p = (op m s.core.p).2 ∧ s.SameMemoryBut t [addr] ∧ t.core.a = s.core.a ∧ t.core.s = s.core.s ∧
      t.core.ad = m.setWidth 16 ∧ t.core.brkFlags = s.core.brkFlags ∧ s.Ends t opcode 6 (s.core.pc + 3#16) := by
  obtain ⟨t, ht, hread, ha, hp, hrest⟩ := State.fetchNext_ends (n := 5) (a := s.core.a) (p := (op m s.core.p).2)
    (sp := s.core.s) (ad := m.setWidth 16)
    (u := { ((s.instrTicks 6).writeByte addr m).writeByte addr (op m s.core.p).1 with core :=
      { (((s.instrTicks 6).writeByte addr m).writeByte addr (op m s.core.p).1).core with
        p := (op m s.core.p).2, ad := m.setWidth 16, pc := s.core.pc + 3#16 } })
    (by simp) (by simp) (by simp) hmapped opcode (op m s.core.p).1
  have hmem : ∀ b, t.readByte b = ((s.writeByte addr m).writeByte addr (op m s.core.p).1).readByte b := fun b =>
    (hread b).trans (State.readByte_writeByte_writeByte_instrTicks 6 s addr m _ b)
  refine ⟨t, ?_, ?_, hp, fun b hb => ?_, ha, hrest⟩
  · rw [absoluteModify, State.readThen_of_some ((s.instrTicks_readByte 6 addr).trans hm)]
    simpa [State.byteAddress] using ht
  · simpa only [State.Stored, hmem] using s.stored_writeByte_writeByte addr m (op m s.core.p).1
  · have hne : b ≠ addr := by simpa using hb
    rw [hmem, State.readByte_writeByte_other _ _ hne, State.readByte_writeByte_other _ _ hne]

/-- Settles O28: the read-modify-write template, with each shift as the operation. -/
theorem absoluteShiftsComplete : Obligations.AbsoluteShiftsComplete := by
  intro addr m s hm hmapped
  simp only [List.forall_mem_cons]
  exact ⟨absoluteModify_completes hm hmapped _ asl, absoluteModify_completes hm hmapped _ rol,
    absoluteModify_completes hm hmapped _ lsr, absoluteModify_completes hm hmapped _ ror, nofun⟩

end Sys2Proof.Machine
end

section
/-! SUPPORT. How the two control transfers complete: JMP, and JSR over what its two pushes leave in memory, from which it
then reads its own last byte (`45_jump.md` R170, R171; `20_memory.md` R58). -/

namespace Sys2Proof.Machine

/-! ### JMP -/

/-- Settles O29: no byte is read before the fetch at the target, so one mapped address is enough. -/
theorem jumpCompletes : Obligations.JumpCompletes := by
  intro addr s hmapped
  obtain ⟨t, ht, hread, ha, hp, hs, had, hflags, hends⟩ := State.fetchNext_ends
    (u := { s.instrTicks 3 with core := { (s.instrTicks 3).core with pc := addr, ad := (lo addr).setWidth 16 } })
    rfl (s.instrTicks_map 3) rfl hmapped 0x4C#8 (hi addr)
  exact ⟨t, ht, by simpa using ha, by simpa using hp, by simpa using hs, had, hflags,
    fun b => (hread b).trans (s.instrTicks_readByte 3 b), hends⟩

/-! ### What pushes leave in memory -/

/-- A push stores its byte in the stack location of S, or is dropped there. -/
theorem State.stored_push (s : State) (v : Byte) : s.Stored (s.push v) (stackSlot s.core.s) v :=
  ⟨fun hwf hram => State.readByte_push_same v hram hwf, fun hrom => State.readByte_push_rom s v hrom⟩

/-- What is stored elsewhere stays through a later push. -/
theorem State.Stored.push_other {s t : State} {a : Word} {v : Byte} (h : s.Stored t a v) (ha : a ≠ stackSlot t.core.s)
    (w : Byte) : s.Stored (t.push w) a v := by
  have hkept : (t.push w).readByte a = t.readByte a := State.readByte_push_other t w ha
  simpa only [State.Stored, hkept] using h

/-- What is stored after a push is stored as seen from before it. -/
theorem State.Stored.of_push {s t : State} {a : Word} {v w : Byte} (h : (s.push w).Stored t a v) : s.Stored t a v := by
  obtain ⟨hram, hrom⟩ := h
  rw [State.Writable, State.push_map] at hram hrom
  exact ⟨fun hwf => hram (State.push_wf w hwf), fun ha => (hrom ha).trans (State.readByte_push_rom s w ha)⟩

/-- A push changes one of the listed bytes alone if its stack location is listed. -/
theorem State.SameMemoryBut.push {s t : State} {stored : List Word} (h : s.SameMemoryBut t stored)
    (hslot : stackSlot t.core.s ∈ stored) (w : Byte) : s.SameMemoryBut (t.push w) stored := fun b hb =>
  (State.readByte_push_other t w (ne_of_mem_of_not_mem hslot hb).symm).trans (h b hb)

/-! ### JSR -/

/-- The two pushes of JSR, high byte first (R171). -/
def State.pushWord (s : State) (w : Word) : State := (s.push (hi w)).push (lo w)

@[simp] theorem State.pushWord_core (s : State) (w : Word) :
    (s.pushWord w).core = { s.core with s := s.core.s - 2#8 } := by
  simp [State.pushWord, State.push, BitVec.sub_sub]

@[simp] theorem State.pushWord_map (s : State) (w : Word) : (s.pushWord w).map = s.map := by simp [State.pushWord]

@[simp] theorem State.pushWord_inputs (s : State) (w : Word) : (s.pushWord w).inputs = s.inputs := by
  simp [State.pushWord]

/-- The two stack locations that a push of a word uses when it starts with this value of S. -/
abbrev wordSlots (sp : Byte) : List Word := [stackSlot sp, stackSlot (sp - 1#8)]

/-- The memory of `t` is that of `s` after the word `w` was pushed. -/
abbrev State.WordPushed (s t : State) (w : Word) : Prop :=
  s.Stored t (stackSlot s.core.s) (hi w) ∧ s.Stored t (stackSlot (s.core.s - 1#8)) (lo w) ∧
    s.SameMemoryBut t (wordSlots s.core.s)

theorem State.wordPushed_pushWord (s : State) (w : Word) : s.WordPushed (s.pushWord w) w := by
  refine ⟨(s.stored_push (hi w)).push_other ?_ (lo w), ?_, ?_⟩
  · simpa using stackSlot_ne_sub (k := 1#8) (by decide) s.core.s
  · simpa [State.pushWord] using ((s.push (hi w)).stored_push (lo w)).of_push
  · have hsame : s.SameMemoryBut s (wordSlots s.core.s) := fun _ _ => rfl
    exact (hsame.push (by simp) (hi w)).push (by simp) (lo w)

/-- The same after the ticks of an instruction, which change neither memory nor S. -/
theorem State.wordPushed_instrTicks (n : Nat) (s : State) (w : Word) :
    s.WordPushed ((s.instrTicks n).pushWord w) w := by
  simpa [State.WordPushed, State.Stored, State.SameMemoryBut, State.Writable] using
    (s.instrTicks n).wordPushed_pushWord w

/-- A byte outside the two stack locations, or at one that is not RAM, is not pushed over. -/
theorem State.WordPushed.readByte_kept {s t : State} {w b : Word} (h : s.WordPushed t w)
    (hb : b ∈ wordSlots s.core.s → ¬ s.Writable b) : t.readByte b = s.readByte b := by
  obtain ⟨⟨-, hhigh⟩, ⟨-, hlow⟩, hother⟩ := h
  by_cases hslot : b ∈ wordSlots s.core.s
  · have hrom := hb hslot
    obtain rfl | rfl : b = stackSlot s.core.s ∨ b = stackSlot (s.core.s - 1#8) := by simpa using hslot
    · exact hhigh hrom
    · exact hlow hrom
  · exact hother b hslot

/-- JSR completes wherever its stack location and its target are mapped. The high byte of the target is `h`, the last byte
of the instruction as the pushes leave it. -/
theorem execJsr_completes {addr : Word} {h : Byte} {s : State} (hstack : s.Mapped (stackSlot s.core.s))
    (hlast : ((s.instrTicks 6).pushWord (s.core.pc + 2#16)).readByte (s.core.pc + 2#16) = some h)
    (htarget : s.Mapped (join h (lo addr))) :
    ∃ t, execJsr addr s = .next t ∧ s.WordPushed t (s.core.pc + 2#16) ∧ t.core.s = s.core.s - 2#8 ∧
      t.core.a = s.core.a ∧ t.core.p = s.core.p ∧ t.core.ad = (lo addr).setWidth 16 ∧
      t.core.brkFlags = s.core.brkFlags ∧ s.Ends t 0x20#8 6 (join h (lo addr)) := by
  obtain ⟨t, ht, hread, ha, hp, hs, hrest⟩ := State.fetchNext_ends (n := 5) (a := s.core.a) (p := s.core.p)
    (sp := s.core.s - 2#8) (pc := join h (lo addr)) (ad := (lo addr).setWidth 16)
    (u := { (s.instrTicks 6).pushWord (s.core.pc + 2#16) with core :=
      { ((s.instrTicks 6).pushWord (s.core.pc + 2#16)).core with
        pc := join h (lo addr), ad := (lo addr).setWidth 16 } })
    (by simp) (by simp) (by simp) htarget 0x20#8 h
  have hmem : ∀ b, t.readByte b = ((s.instrTicks 6).pushWord (s.core.pc + 2#16)).readByte b := hread
  refine ⟨t, ?_, ?_, hs, ha, hp, hrest⟩
  · have hpeek : (s.instrTicks 6).readByte (s.instrTicks 6).core.stackAddress = some _ :=
      State.readByte_of_mapped (by simpa [Core.stackAddress_eq] using hstack)
    rw [execJsr, State.readThen_of_some hpeek, State.byteAddress, State.instrTicks_pc]
    exact (State.readThen_of_some hlast _).trans ht
  · simpa only [State.WordPushed, State.Stored, State.SameMemoryBut, hmem] using
      s.wordPushed_instrTicks 6 (s.core.pc + 2#16)

/-- Settles O30: a last byte away from the stack locations is not pushed over, and at one that is not RAM the push is
dropped, so either way it still reads as the high byte of the operand. -/
theorem subroutineCallCompletes : Obligations.SubroutineCallCompletes := by
  intro addr s hstack hbyte htarget hrom
  obtain ⟨t, ht, ⟨hhi, hlo, hmem⟩, hregisters⟩ := execJsr_completes (addr := addr) hstack
    (((s.wordPushed_instrTicks 6 _).readByte_kept hrom).trans hbyte) (by rwa [join_hi_lo])
  rw [join_hi_lo] at hregisters
  exact ⟨t, ht, hhi, hlo, hmem, hregisters⟩

/-- Settles O31: the last byte is RAM at one of the stack locations, so it reads as the byte pushed there, before the
target's fetch and after it. -/
theorem subroutineCallOverItself : Obligations.SubroutineCallOverItself := by
  intro addr s h hwf hram hstack hcase htarget
  have hpushed : ∀ t, s.WordPushed t (s.core.pc + 2#16) → t.readByte (s.core.pc + 2#16) = some h := by
    rintro t ⟨⟨hhigh, -⟩, ⟨hlow, -⟩, -⟩
    obtain ⟨hslot, rfl⟩ | ⟨hslot, rfl⟩ := hcase
    · rw [← hslot] at hhigh
      exact hhigh hwf hram
    · rw [← hslot] at hlow
      exact hlow hwf hram
  obtain ⟨t, ht, ⟨hhi, hlo, hmem⟩, hs, ha, hp, had, hflags, hends⟩ := execJsr_completes (addr := addr) hstack
    (hpushed _ (s.wordPushed_instrTicks 6 _)) htarget
  exact ⟨t, ht, hpushed t ⟨hhi, hlo, hmem⟩, hs, ha, hp, had, hflags, hhi, hlo, hmem, hends⟩

end Sys2Proof.Machine
end

section
/-! SUPPORT. How the flag instructions complete: the implied template, which reads and discards the byte after the opcode
(`46_flag_system.md` R180 to R186, `40_engine.md` R105). -/

namespace Sys2Proof.Machine

/-- The byte that the template reads and discards is the next opcode, so one mapped address is enough (R105). -/
theorem impliedFlag_completes {s : State} (hmapped : s.Mapped (s.core.pc + 1#16)) (opcode : Byte) (f : Flag)
    (value : Bool) :
    ∃ t, impliedFlag opcode f value s = .next t ∧ flag t.core.p f = value ∧ s.KeepsFlags t [f] ∧ t.core.a = s.core.a ∧
      t.core.s = s.core.s ∧ t.core.ad = s.core.ad ∧ t.core.brkFlags = s.core.brkFlags ∧ s.SameMemory t ∧
      s.Ends t opcode 2 (s.core.pc + 1#16) := by
  have hdiscarded := State.readByte_of_mapped hmapped
  obtain ⟨t, ht, hread, ha, hp, hs, had, hflags, hends⟩ := State.fetchNext_ends
    (u := { s.instrTicks 2 with core := { (s.instrTicks 2).core with
      p := setFlag s.core.p f value, pc := s.core.pc + 1#16 } })
    rfl (s.instrTicks_map 2) rfl hmapped opcode (s.mem.read (s.core.pc + 1#16).toNat)
  have hnext : impliedFlag opcode f value s = .next t := by
    rw [impliedFlag, State.instrTicks_byteAddress, State.readThen_of_some ((s.instrTicks_readByte 2 _).trans hdiscarded)]
    simpa using ht
  exact ⟨t, hnext, by rw [hp, flag_setFlag_same], (impliedFlag_frame hnext).flags, by simpa using ha, by simpa using hs,
    by simpa using had, hflags, fun b => (hread b).trans (s.instrTicks_readByte 2 b), hends⟩

/-- Settles O32: the implied template, with each instruction's flag and value. -/
theorem flagInstructionsComplete : Obligations.FlagInstructionsComplete := by
  intro s hmapped
  simp only [List.forall_mem_cons]
  exact ⟨impliedFlag_completes hmapped _ .c false, impliedFlag_completes hmapped _ .c true,
    impliedFlag_completes hmapped _ .i false, impliedFlag_completes hmapped _ .i true,
    impliedFlag_completes hmapped _ .v false, impliedFlag_completes hmapped _ .d false,
    impliedFlag_completes hmapped _ .d true, nofun⟩

end Sys2Proof.Machine
end

section
/-! SUPPORT. How a BRK sequence completes where no reset is pending, whatever started it, and BRK with it: what its three
pushes leave in memory, then its two vector reads and its last fetch (`46_flag_system.md` R187, `60_exceptions.md` R220 to
R228). -/

namespace Sys2Proof.Machine

/-! ### What the three pushes leave in memory -/

/-- The three pushes of a BRK sequence, written and not read back: the return address, then the status (R222 to R224). -/
def State.pushEntry (s : State) (ret : Word) (status : Byte) : State := (s.pushWord ret).push status

@[simp] theorem State.pushEntry_map (s : State) (ret : Word) (status : Byte) : (s.pushEntry ret status).map = s.map := by
  simp [State.pushEntry]

@[simp] theorem State.pushEntry_inputs (s : State) (ret : Word) (status : Byte) :
    (s.pushEntry ret status).inputs = s.inputs := by
  simp [State.pushEntry]

/-- The memory of `t` is that of `s` after a return address and a status were pushed. -/
abbrev State.EntryPushed (s t : State) (ret : Word) (status : Byte) : Prop :=
  s.Stored t (stackSlot s.core.s) (hi ret) ∧ s.Stored t (stackSlot (s.core.s - 1#8)) (lo ret) ∧
    s.Stored t (stackSlot (s.core.s - 2#8)) status ∧ s.SameMemoryBut t (brkSlots s.core.s)

theorem State.entryPushed_pushEntry (s : State) (ret : Word) (status : Byte) :
    s.EntryPushed (s.pushEntry ret status) ret status := by
  obtain ⟨hhigh, hlow, hother⟩ := s.wordPushed_pushWord ret
  have hslot : stackSlot (s.pushWord ret).core.s = stackSlot (s.core.s - 2#8) := by simp
  refine ⟨hhigh.push_other ?_ status, hlow.push_other ?_ status, ?_, ?_⟩
  · rw [hslot]
    exact stackSlot_ne_sub (by decide) s.core.s
  · simpa [BitVec.sub_sub] using stackSlot_ne_sub (k := 1#8) (by decide) (s.core.s - 1#8)
  · exact hslot ▸ ((s.pushWord ret).stored_push status).of_push.of_push
  · have hwide : s.SameMemoryBut (s.pushWord ret) (brkSlots s.core.s) := fun b hb =>
      hother b fun hw => hb (List.mem_append_left _ hw)
    exact hwide.push (by simp) status

/-- The same as seen from an earlier state with the same S, map and memory. -/
theorem State.EntryPushed.of_start {s u t : State} {ret : Word} {status : Byte} (h : u.EntryPushed t ret status)
    (hs : u.core.s = s.core.s) (hmap : u.map = s.map) (hmem : u.mem = s.mem) : s.EntryPushed t ret status := by
  simpa only [State.EntryPushed, State.Stored, State.SameMemoryBut, State.Writable, State.readByte_congr hmap hmem, hs,
    hmap, hmem] using h

/-! ### Steps 1 to 6 -/

/-- Every vector is in page 0xFF, away from the stack (`20_memory.md` R63). -/
theorem vector_not_mem_brkSlots (flags : BitVec 3) (sp : Byte) :
    vectorFor flags ∉ brkSlots sp ∧ vectorFor flags + 1#16 ∉ brkSlots sp := by
  have hpage : ∀ flags : BitVec 3, hi (vectorFor flags) = 0xFF#8 ∧ hi (vectorFor flags + 1#16) = 0xFF#8 := by decide
  exact ⟨not_mem_brkSlots (hpage flags).1 sp, not_mem_brkSlots (hpage flags).2 sp⟩

/-- After the pushes at steps 1 to 3, and the ticks of steps 1 to 4 (R222 to R224). -/
def State.entryPushes (s : State) (flags : BitVec 3) : State :=
  (s.passTicks 4).pushEntry (returnAddress flags s.core.pc) (pushedStatus s.core.p)

/-- I and B set and the flags cleared at step 4, then the ticks of steps 5 and 6 (R225 to R227). -/
def State.entryMasks (s : State) : State :=
  ({ s with core := { s.core with p := maskedStatus s.core.p, brkFlags := 0#3 } } : State).passTicks 2

@[simp] theorem State.entryPushes_map (s : State) (flags : BitVec 3) : (s.entryPushes flags).map = s.map := by
  rw [State.entryPushes, State.pushEntry_map, (s.passTicks_same 4).map]

@[simp] theorem State.entryPushes_inputs (s : State) (flags : BitVec 3) :
    (s.entryPushes flags).inputs = s.inputs.drop 4 := by
  rw [State.entryPushes, State.pushEntry_inputs, State.passTicks_inputs]

@[simp] theorem State.entryMasks_map (s : State) : s.entryMasks.map = s.map := (State.passTicks_same 2 _).map

@[simp] theorem State.entryMasks_inputs (s : State) : s.entryMasks.inputs = s.inputs.drop 2 := State.passTicks_inputs 2 _

/-- PC and AD as step 6 leaves them, given the two bytes of the vector (R226, R227). -/
def State.entryJump (s : State) (h l : Byte) : State :=
  { s with core := { s.core with pc := join h l, ad := l.setWidth 16 } }

theorem State.entryPushed_entryPushes (s : State) (flags : BitVec 3) :
    s.EntryPushed (s.entryPushes flags) (returnAddress flags s.core.pc) (pushedStatus s.core.p) :=
  have hticks := s.passTicks_same 4
  ((s.passTicks 4).entryPushed_pushEntry _ _).of_start hticks.sp hticks.map hticks.mem

@[simp] theorem State.entryMasks_readByte (s : State) (a : Word) : s.entryMasks.readByte a = s.readByte a :=
  State.passTicks_readByte 2 _ a

theorem State.brkSequence_of_not_reset {flags : BitVec 3} (hreset : resetPending flags = false) (s : State) :
    s.brkSequence flags = (s.entryPushes flags).readThen (vectorFor flags) fun l =>
      (s.entryPushes flags).entryMasks.readThen (vectorFor flags + 1#16) fun h =>
        ((s.entryPushes flags).entryMasks.entryJump h l).fetchNext 0x00#8 7#3 h := by
  have hticks := s.passTicks_same 4
  simp [State.brkSequence, State.pushOrRead, hreset, State.entryPushes, State.pushEntry, State.pushWord,
    State.entryMasks, State.entryJump, hticks.pc, hticks.p]

/-- A queued fetch answers where PC is mapped, and the snapshot is the vector it returned (R103). -/
theorem State.fetchNext_of_mapped {s : State} (h : s.Mapped s.core.pc) (opcode : Byte) (len : BitVec 3) (bus : Byte) :
    ∃ t, s.fetchNext opcode len bus = .next t ∧ t.pins = setData t.core.pinsPrev (getData t.pins) :=
  ⟨_, State.fetchNext_of_some opcode len bus (State.readByte_of_mapped h), by rw [getData_setData]⟩

/-- The vector is read after the pushes, but no push reaches it, so it reads as before them. -/
theorem State.brkSequence_completes {s : State} {flags : BitVec 3} {l h : Byte} (hreset : resetPending flags = false)
    (hl : s.readByte (vectorFor flags) = some l) (hh : s.readByte (vectorFor flags + 1#16) = some h)
    (hhandler : s.Mapped (join h l)) :
    ∃ t, s.brkSequence flags = .next t ∧
      s.EntryPushed t (returnAddress flags s.core.pc) (pushedStatus s.core.p) ∧ t.core.pc = join h l ∧
      t.core.ad = l.setWidth 16 ∧ t.pins = setData t.core.pinsPrev (getData t.pins) ∧ t.inputs = s.inputs.drop 6 := by
  obtain ⟨hlow, hhigh⟩ := vector_not_mem_brkSlots flags s.core.s
  have hpushed := s.entryPushed_entryPushes flags
  have ⟨_, _, _, hother⟩ := hpushed
  have hreads : s.brkSequence flags = ((s.entryPushes flags).entryMasks.entryJump h l).fetchNext 0x00#8 7#3 h := by
    rw [State.brkSequence_of_not_reset hreset, State.readThen_of_some ((hother _ hlow).trans hl),
      State.readThen_of_some ((State.entryMasks_readByte _ _).trans ((hother _ hhigh).trans hh))]
  obtain ⟨t, ht, hpins⟩ := State.fetchNext_of_mapped (s := (s.entryPushes flags).entryMasks.entryJump h l)
    (by simpa [State.entryJump] using hhandler) 0x00#8 7#3 h
  obtain ⟨-, hmem, hmap, hinputs, hcore⟩ := State.fetchNext_next ht
  have hread : ∀ b, t.readByte b = (s.entryPushes flags).readByte b := fun b =>
    (State.readByte_congr hmap hmem b).trans (State.entryMasks_readByte _ b)
  refine ⟨t, hreads.trans ht, ?_, by rw [hcore]; rfl, by rw [hcore]; rfl, hpins, ?_⟩
  · simpa only [State.EntryPushed, State.Stored, State.SameMemoryBut, hread] using hpushed
  · simpa [State.entryJump] using hinputs

/-! ### The whole sequence, and BRK -/

/-- After step 0, with the status, PC and pending flags that the rest of the sequence works on (R221): BRK steps over its
padding byte and leaves the other two alone, an interrupt leaves PC alone. -/
def State.entryStart (s : State) (p : Byte) (pc : Word) (pending : BitVec 3) : State :=
  { s.passTick true with core := { (s.passTick true).core with p := p, pc := pc, brkFlags := pending } }

theorem State.entryStart_completes {s : State} {flags : BitVec 3} {l h : Byte} (hreset : resetPending flags = false)
    (hl : s.readByte (vectorFor flags) = some l) (hh : s.readByte (vectorFor flags + 1#16) = some h)
    (hhandler : s.Mapped (join h l)) (p : Byte) (pc : Word) (pending : BitVec 3) :
    ∃ t, (s.entryStart p pc pending).brkSequence flags = .next t ∧
      s.EntryPushed t (returnAddress flags pc) (pushedStatus p) ∧ t.core.s = s.core.s - 3#8 ∧
      t.core.p = maskedStatus p ∧ t.core.a = s.core.a ∧ t.core.ad = l.setWidth 16 ∧ t.core.brkFlags = 0#3 ∧
      s.Ends t 0x00#8 7 (join h l) := by
  obtain ⟨t, ht, hpushed, hpc, had, hpins, hinputs⟩ :=
    State.brkSequence_completes (s := s.entryStart p pc pending) hreset hl hh hhandler
  obtain ⟨hdone, ha, -, hp, hflags, -⟩ := State.brkSequence_next ht
  exact ⟨t, ht, hpushed.of_start rfl rfl rfl, (State.brkSequence_frame ht).sp, hp, ha, had, hflags, hpc ▸ hdone.starts,
    hdone.ir, hpins, hinputs.trans List.drop_tail, hdone.x, hdone.y, hdone.fault, hdone.map⟩

/-- Entry sets I and B (R225). -/
theorem maskedStatus_eq (p : Byte) : maskedStatus p = p ||| 0x14#8 :=
  BitVec.or_assoc p _ _

theorem execBrk_of_mapped {s : State} (hmapped : s.Mapped (s.core.pc + 1#16)) :
    execBrk s = (s.entryStart s.core.p (s.core.pc + 1#16) s.core.brkFlags).brkSequence 0#3 :=
  State.readThen_of_some (s := s.entryStart s.core.p (s.core.pc + 1#16) s.core.brkFlags)
    (State.readByte_of_mapped hmapped) _

/-- Settles O33: the sequence with no flag pending, after a step 0 that reads the padding byte. -/
theorem breakCompletes : Obligations.BreakCompletes := by
  intro s l h hpadding hl hh hhandler
  obtain ⟨t, ht, ⟨hhigh, hlow, hstatus, hother⟩, hs, hp, hregisters⟩ :=
    State.entryStart_completes (flags := 0#3) rfl hl hh hhandler s.core.p (s.core.pc + 1#16) s.core.brkFlags
  have hret : returnAddress 0#3 (s.core.pc + 1#16) = s.core.pc + 2#16 := BitVec.add_assoc _ _ _
  rw [hret] at hhigh hlow
  exact ⟨t, (execBrk_of_mapped hpadding).trans ht, hhigh, hlow, hstatus, hother, hs, hp.trans (maskedStatus_eq _),
    hregisters⟩

end Sys2Proof.Machine
end

section
/-! SUPPORT. What a held IRQB makes of the IRQ pipeline: nothing while I is set, and after two ticks with I clear a sample old
enough to be recognised (`46_flag_system.md` R182, `60_exceptions.md` R215; `40_engine.md` R94, R97, R102). -/

namespace Sys2Proof.Machine

/-! ### The ticks of a held IRQB -/

/-- At each of the next `n` ticks IRQB alone is low, after which nothing is scheduled, and no NMI sample is under way. -/
structure State.IrqHeld (n : Nat) (s : State) : Prop where
  inputs : s.inputs = List.replicate n ⟨true, false, true, true⟩
  nmiPip : s.core.nmiPip = 0#16

section
variable {n m : Nat} {s t : State}

theorem State.IrqHeld.nextInputs (h : State.IrqHeld (n + 1) s) : s.nextInputs = ⟨true, false, true, true⟩ := by
  rw [State.nextInputs, h.inputs]
  rfl

theorem State.IrqHeld.passTick (h : State.IrqHeld (n + 1) s) (sync : Bool) : State.IrqHeld n (s.passTick sync) where
  inputs := by rw [State.passTick_inputs, h.inputs]; rfl
  nmiPip := by simp [State.passTick, h.nextInputs, h.nmiPip, sampleNmi, keepYoung, agePip]

theorem State.IrqHeld.passTicks (h : State.IrqHeld (m + n) s) : State.IrqHeld n (s.passTicks m) := by
  induction m generalizing s with
  | zero => simpa [State.passTicks] using h
  | succ m ih => exact ih ((Nat.add_right_comm m 1 n ▸ h).passTick false)

theorem State.IrqHeld.instrTicks (h : State.IrqHeld (m + 1 + n) s) : State.IrqHeld n (s.instrTicks (m + 1)) :=
  ((Nat.add_right_comm m 1 n ▸ h).passTick true).passTicks

/-- While I is set, no tick samples IRQB, whatever its level (R94). -/
theorem State.passTick_irqPip_of_masked (hi : flag s.core.p .i = true) (hpip : s.core.irqPip = 0#16) (sync : Bool) :
    (s.passTick sync).core.irqPip = 0#16 := by
  simp [State.passTick, sampleIrq, hi, hpip, keepYoung, agePip]

theorem State.passTicks_irqPip_of_masked (hi : flag s.core.p .i = true) (hpip : s.core.irqPip = 0#16) (n : Nat) :
    (s.passTicks n).core.irqPip = 0#16 := by
  induction n generalizing s with
  | zero => exact hpip
  | succ n ih => exact ih hi (State.passTick_irqPip_of_masked hi hpip false)

theorem State.instrTicks_irqPip_of_masked (hi : flag s.core.p .i = true) (hpip : s.core.irqPip = 0#16) (n : Nat) :
    (s.instrTicks n).core.irqPip = 0#16 :=
  State.passTicks_irqPip_of_masked (s := s.passTick true) hi (State.passTick_irqPip_of_masked hi hpip true) _

/-- With I clear a tick's sample of a low IRQB is at bit 1 after it, and what was there before is at bit 2, unless it was a
SYNC tick (R94, R97, R102). -/
theorem State.IrqHeld.passTick_irqPip (h : State.IrqHeld (n + 1) s) (hi : flag s.core.p .i = false) (sync : Bool) :
    (s.passTick sync).core.irqPip.getLsbD 1 = true ∧
      (sync = false → (s.passTick sync).core.irqPip.getLsbD 2 = s.core.irqPip.getLsbD 1) := by
  have hpip : (s.passTick sync).core.irqPip =
      agePip (if sync then keepYoung (s.core.irqPip ||| 1#16) else s.core.irqPip ||| 1#16) := by
    simp [State.passTick, h.nextInputs, sampleIrq, hi]
  rw [hpip]
  cases sync <;> simp [agePip, keepYoung]

/-- From a sample at bit 1 on, every tick after the SYNC tick leaves one at bit 2, where it is recognised (R97). -/
theorem State.IrqHeld.passTicks_irqPip (h : State.IrqHeld (n + 1 + m) s) (hi : flag s.core.p .i = false)
    (hpip : s.core.irqPip.getLsbD 1 = true) : (s.passTicks (n + 1)).core.irqPip.getLsbD 2 = true := by
  induction n generalizing s with
  | zero =>
    rw [Nat.add_right_comm] at h
    exact ((h.passTick_irqPip hi false).2 rfl).trans hpip
  | succ n ih =>
    rw [Nat.add_right_comm] at h
    exact ih (h.passTick false) hi (h.passTick_irqPip hi false).1

/-- An instruction of two ticks or more that starts with I clear ends with a sample to be recognised. -/
theorem State.IrqHeld.instrTicks_irqPip (h : State.IrqHeld (n + 2 + m) s) (hi : flag s.core.p .i = false) :
    (s.instrTicks (n + 2)).core.irqPip.getLsbD 2 = true := by
  rw [Nat.add_right_comm (n + 1) 1 m] at h
  exact (h.passTick true).passTicks_irqPip hi (h.passTick_irqPip hi true).1

end

/-! ### The instruction after CLI -/

/-- An instruction that is no BRK has run from `s` to `t`: its two to six ticks have made the pipelines, and the pending flags
are as before. -/
abbrev State.Ticked (s t : State) : Prop :=
  ∃ n ≤ 4, t.core.irqPip = (s.instrTicks (n + 2)).core.irqPip ∧ t.core.nmiPip = (s.instrTicks (n + 2)).core.nmiPip ∧
    t.core.brkFlags = s.core.brkFlags

/-- An instruction that lets its ticks pass and then writes other fields of the core. -/
theorem State.ticked_of_core {n : Nat} {s t : State} {a p sp : Byte} {pc ad : Word} {ir : IR} {prev : Pins}
    (hc : t.core = { (s.instrTicks (n + 2)).core with
      a := a, p := p, s := sp, pc := pc, ad := ad, ir := ir, pinsPrev := prev }) (hn : n ≤ 4) : s.Ticked t := by
  refine ⟨n, hn, ?_, ?_, ?_⟩ <;> rw [hc]
  exact State.instrTicks_brkFlags _ s

/-- Every operand form but BRK's lets its ticks pass without writing I between them. -/
theorem OperandForm.ticked {opcode : Byte} {operands : List Byte} {program : List MicroStep} {meaning : State → Result}
    (hform : OperandForm opcode operands program meaning) (hopcode : opcode ≠ 0x00#8) {s t : State}
    (h : meaning s = .next t) : s.Ticked t := by
  cases hform with
  | immediate =>
    obtain ⟨-, -, a, p, -, hc⟩ := immediate_next h
    exact State.ticked_of_core hc (by decide)
  | absoluteRead =>
    obtain ⟨-, -, v, a, p, -, -, hc⟩ := absoluteRead_next h
    exact State.ticked_of_core hc (by decide)
  | absoluteWrite =>
    obtain ⟨-, -, hc⟩ := absoluteWrite_next h
    exact State.ticked_of_core hc (by decide)
  | absoluteModify =>
    obtain ⟨-, m, -, -, hc⟩ := absoluteModify_next h
    exact State.ticked_of_core hc (by decide)
  | accumulator =>
    obtain ⟨-, -, hc⟩ := accumulator_next h
    exact State.ticked_of_core hc (by decide)
  | implied =>
    obtain ⟨-, -, hc⟩ := impliedFlag_next h
    exact State.ticked_of_core hc (by decide)
  | jump =>
    obtain ⟨-, -, hc⟩ := execJmp_next h
    exact State.ticked_of_core hc (by decide)
  | call =>
    obtain ⟨-, -, b, -, hc⟩ := execJsr_next h
    exact State.ticked_of_core hc (by decide)
  | brk => exact absurd rfl hopcode

/-- The opcode 0x00 is BRK's alone, since the decoder reads the instruction back. -/
theorem opcode_ne_zero {i : Instr} {operands : List Byte} (henc : encode i = i.opcode :: operands) (hi : i ≠ .brk) :
    i.opcode ≠ 0x00#8 := fun h => by
  have hdecode := decodeOfEncodeIsIdentity i []
  rw [henc, h] at hdecode
  have hbrk : Except.ok (Instr.brk, operands ++ []) = decode (0x00#8 :: operands ++ []) := rfl
  exact hi (congrArg Prod.fst (Except.ok.inj (hbrk.trans hdecode))).symm

theorem exec_ticked {i : Instr} {s t : State} (hi : i ≠ .brk) (h : exec i s = .next t) : s.Ticked t := by
  obtain ⟨_, _, henc, -, hform⟩ := hasForm_of_admitted (admitted_of_exec_next h)
  exact hform.ticked (opcode_ne_zero henc hi) h

/-- With nothing else pending, bit 2 of the IRQ pipeline alone decides (R97). -/
theorem recognised_irq (pip : BitVec 16) : recognised 0#3 pip 0#16 = if pip.getLsbD 2 then 1#3 else 0#3 := by
  have hnmi : ¬ 0#16 &&& 0xFFFC#16 ≠ 0#16 := by decide
  simp only [recognised, ne_eq, and_bit_two_eq_zero_iff, Bool.not_eq_false, if_neg hnmi]
  rfl

/-- A flag instruction whose own ticks found I set leaves the pipelines empty, whatever it makes of I. -/
theorem impliedFlag_of_irqHeld {n : Nat} {opcode : Byte} {f : Flag} {value : Bool} {s t : State}
    (h : impliedFlag opcode f value s = .next t) (hheld : State.IrqHeld (2 + n) s) (hi : flag s.core.p .i = true)
    (hpip : s.core.irqPip = 0#16) : State.IrqHeld n t ∧ t.core.irqPip = 0#16 := by
  obtain ⟨-, -, hcore⟩ := impliedFlag_next h
  obtain ⟨d, -, hfetch⟩ := State.readThen_next h
  obtain ⟨-, -, -, hinputs, -⟩ := State.fetchNext_next hfetch
  obtain ⟨hrest, hnmi⟩ := State.IrqHeld.instrTicks (m := 1) hheld
  refine ⟨⟨hinputs.trans hrest, ?_⟩, ?_⟩ <;> rw [hcore]
  · exact hnmi
  · exact State.instrTicks_irqPip_of_masked hi hpip 2

/-- Settles O41: CLI's own two ticks find I set; the instruction after it has at least two ticks that find I clear. -/
theorem cliDelaysTheInterrupt : Obligations.CliDelaysTheInterrupt := by
  intro s t hi hirq hnmi hflags hinputs hcli
  obtain ⟨hheld, hempty⟩ := impliedFlag_of_irqHeld (n := 6) hcli ⟨hinputs, hnmi⟩ hi hirq
  obtain ⟨-, -, hcore⟩ := impliedFlag_next hcli
  have hclear : flag t.core.p .i = false := by rw [hcore, flag_setFlag_same]
  have hnone : t.core.brkFlags = 0#3 := by rw [(impliedFlag_frame hcli).brkFlags, hflags]
  refine ⟨?_, fun i u hbrk h => ?_⟩
  · rw [State.pendingAtSync, hnone, hempty, hheld.nmiPip, recognised_irq]
    rfl
  · obtain ⟨n, hn, hirq', hnmi', hflags'⟩ := exec_ticked hbrk h
    obtain ⟨m, hm⟩ := Nat.exists_eq_add_of_le (show n + 2 ≤ 6 by omega)
    rw [hm] at hheld
    have hold := hheld.instrTicks_irqPip hclear
    have hquiet := (State.IrqHeld.instrTicks (m := n + 1) hheld).nmiPip
    rw [State.pendingAtSync, hflags', hnone, hirq', hnmi', hquiet, recognised_irq, if_pos hold]

end Sys2Proof.Machine
end

section
/-! SUPPORT. Dispatch that finds no micro-step: for an opcode without a program, for a step past the declared length, and
that the reference system's own ticks meet it at step 0 alone (`47_unimplemented.md` R200 to R202; `40_engine.md` R100,
R112; `70_reset_and_hazards.md` R254). -/

namespace Sys2Proof.Machine

/-! ### When dispatch raises the fault -/

/-- Dispatch past the declared length, which is 0 for an opcode without a program (R200, R202). -/
theorem dispatch_of_overrun {c : Core} (h : programLength c.ir.opcode ≤ c.ir.step.toNat) (p : Pins) :
    dispatch c p = .error (.unimplementedOpcode c.ir.opcode c.ir.step) := by
  unfold dispatch
  cases hprog : microProgram c.ir.opcode with
  | none => rfl
  | some program =>
    rw [programLength_of_program hprog] at h
    simp only [List.getElem?_eq_none h]

/-- A tick that phases 1 to 3 leave past the declared length faults there, and ends (R112). -/
theorem tickEdge_of_overrun {c d : Core} {p : Pins} (hd : c.beforeDispatch p = d)
    (h : programLength d.ir.opcode ≤ d.ir.step.toNat) :
    tickEdge c p = .raised (.unimplementedOpcode d.ir.opcode d.ir.step)
      { d with fault := some (.unimplementedOpcode d.ir.opcode d.ir.step) } := by
  subst hd
  exact tickEdge_of_error (dispatch_of_overrun h _)

/-- The programs of the table are those of admitted opcodes (`30_encoding.md` R77). -/
theorem admitted_of_mem_programTable : ∀ e ∈ programTable, e.1 ∈ admittedOpcodes := by
  simp [programTable, admittedOpcodes]

theorem programLength_of_not_admitted {op : Byte} (h : op ∉ admittedOpcodes) : programLength op = 0 := by
  cases hprog : microProgram op with
  | none => simp [programLength, hprog]
  | some program => exact absurd (admitted_of_mem_programTable _ (mem_of_lookup hprog)) h

/-- Settles O9: phases 1 to 3 latch the opcode and move PC on, and its program has length 0. -/
theorem unimplementedOpcodeFaultsAtItsSyncTick : Obligations.UnimplementedOpcodeFaultsAtItsSyncTick := by
  intro c p hf h0 h1 hs hr hquiet hop
  have hlength := programLength_of_not_admitted hop
  have htick := (tick_of_edge hf h0 h1).trans
    (tickEdge_of_overrun (Core.beforeDispatch_of_sync hs hr hquiet) (Nat.le_of_eq hlength))
  exact ⟨_, htick, rfl, rfl, rfl, rfl, rfl, rfl, rfl, rfl, rfl, rfl, rfl, if_pos hs, if_pos hs⟩

/-- Settles O10: in the middle of an instruction phases 1 to 3 are the detectors, which leave IR alone. -/
theorem stepOverrunFaults : Obligations.StepOverrunFaults := by
  intro c p hf h0 h1 hs hr hlength
  have htick := (tick_of_edge hf h0 h1).trans
    (tickEdge_of_overrun (Core.beforeDispatch_of_inside (c := c) hs hr) hlength)
  exact ⟨_, htick, rfl, rfl, rfl, rfl, rfl, rfl, rfl, rfl, rfl, rfl, rfl, rfl, rfl⟩

/-- Settles O34: the one meaning of these instructions, whose opcodes are those that the table leaves out. -/
theorem unimplementedOpcodesStop : Obligations.UnimplementedOpcodesStop := fun i s hi =>
  ⟨exec_of_not_admitted hi s, fun hmem => by
    rw [(admitted_iff_opcode_mem i).mpr hmem] at hi
    cases hi⟩

/-! ### What else dispatch can raise -/

/-- A micro-step that raises nothing, or the decimal-mode fault (`41_alu.md` R126). -/
def MicroStep.FaultsInDecimalAlone (f : MicroStep) : Prop :=
  ∀ c p e, f c p = .error e → ∃ op k, e = .decimalModeUnsupported op k

theorem executeReadStep_faultsInDecimalAlone (op : ReadOp) : MicroStep.FaultsInDecimalAlone (executeReadStep op) := by
  intro c p e h
  unfold executeReadStep at h
  split at h
  · cases h
  · cases h
    exact ⟨_, _, rfl⟩

/-! Of every program, step by step: `nofun` stands for a micro-step that always answers. -/

section
variable (f : Flag) (v : Bool) (readOp : ReadOp) (shiftOp : ShiftOp)

theorem impProgram_faults : (impProgram f v).Forall MicroStep.FaultsInDecimalAlone := ⟨nofun, nofun⟩
theorem accProgram_faults : (accProgram shiftOp).Forall MicroStep.FaultsInDecimalAlone := ⟨nofun, nofun⟩
theorem immProgram_faults : (immProgram readOp).Forall MicroStep.FaultsInDecimalAlone :=
  ⟨nofun, executeReadStep_faultsInDecimalAlone readOp⟩
theorem absReadProgram_faults : (absReadProgram readOp).Forall MicroStep.FaultsInDecimalAlone :=
  ⟨nofun, nofun, nofun, executeReadStep_faultsInDecimalAlone readOp⟩
theorem absWriteProgram_faults : absWriteProgram.Forall MicroStep.FaultsInDecimalAlone := ⟨nofun, nofun, nofun, nofun⟩
theorem absModifyProgram_faults : (absModifyProgram shiftOp).Forall MicroStep.FaultsInDecimalAlone :=
  ⟨nofun, nofun, nofun, nofun, nofun, nofun⟩
theorem jmpProgram_faults : jmpProgram.Forall MicroStep.FaultsInDecimalAlone := ⟨nofun, nofun, nofun⟩
theorem jsrProgram_faults : jsrProgram.Forall MicroStep.FaultsInDecimalAlone :=
  ⟨nofun, nofun, nofun, nofun, nofun, nofun⟩
theorem brkProgram_faults : brkProgram.Forall MicroStep.FaultsInDecimalAlone :=
  ⟨nofun, nofun, nofun, nofun, nofun, nofun, nofun⟩

end

theorem programTable_faults : ∀ e ∈ programTable, e.2.Forall MicroStep.FaultsInDecimalAlone := by
  simp only [programTable, List.forall_mem_cons, impProgram_faults, accProgram_faults, immProgram_faults,
    absReadProgram_faults, absWriteProgram_faults, absModifyProgram_faults, jmpProgram_faults, jsrProgram_faults,
    brkProgram_faults, List.not_mem_nil, false_implies, implies_true, and_self]

/-- Dispatch names the step it could not find, and that step is past the declared length: no micro-step raises this fault
(R200, R202). -/
theorem overrun_of_dispatch {c : Core} {p : Pins} {op : Byte} {k : BitVec 3}
    (h : dispatch c p = .error (.unimplementedOpcode op k)) :
    k = c.ir.step ∧ programLength c.ir.opcode ≤ c.ir.step.toNat := by
  by_cases hlength : programLength c.ir.opcode ≤ c.ir.step.toNat
  · rw [dispatch_of_overrun hlength] at h
    cases h
    exact ⟨rfl, hlength⟩
  · obtain ⟨program, hprog⟩ : ∃ program, microProgram c.ir.opcode = some program := by
      cases hprog : microProgram c.ir.opcode with
      | none => simp [programLength, hprog] at hlength
      | some program => exact ⟨program, rfl⟩
    rw [programLength_of_program hprog, Nat.not_le] at hlength
    rw [dispatch_of_program hprog (List.getElem?_eq_getElem hlength)] at h
    have hsteps := List.forall_iff_forall_mem.mp (programTable_faults _ (mem_of_lookup hprog))
    obtain ⟨_, _, hdecimal⟩ := hsteps _ (List.getElem_mem hlength) _ _ _ h
    cases hdecimal

/-! ### The reference system -/

/-- Phases 1 to 3 start a program at step 0, or leave IR alone in the middle of an instruction (R95, R96, R98). -/
theorem Core.beforeDispatch_ir_cases (c : Core) (p : Pins) :
    (c.beforeDispatch p).ir.step = 0#3 ∨ pin p .sync = false ∧ (c.beforeDispatch p).ir = c.ir := by
  cases hr : pin p .resb with
  | false => exact .inl (by rw [Core.beforeDispatch_of_reset hr])
  | true =>
    cases hs : pin p .sync with
    | false => exact .inr ⟨rfl, by rw [Core.beforeDispatch_of_inside hs hr, Core.detect_ir]⟩
    | true =>
      refine .inl ?_
      by_cases hpending : recognised c.brkFlags c.irqPip c.nmiPip = 0#3
      · rw [Core.beforeDispatch_of_sync hs hr hpending]
      · rw [Core.beforeDispatch_of_pending hs hr hpending]

/-- The host's service of a bus cycle can only find a byte unmapped (`20_memory.md` R58). -/
theorem State.serve_fault {s : State} {f : Fault} (h : s.serve = .fault f) : ∃ a, f = .unmappedRead a := by
  unfold State.serve State.readThen at h
  split at h
  · split at h <;> cases h
    exact ⟨_, rfl⟩
  · cases h

/-- The engine fault of a live core's cycle is its dispatch's. -/
theorem State.dispatch_of_cycle_fault {s : State} {f : EngineFault} (hlive : s.core.fault = none)
    (h : s.cycle = .fault (.engine f)) : dispatch s.dispatchCore s.tickPins = .error f := by
  cases hd : dispatch s.dispatchCore s.tickPins with
  | error e =>
    rw [State.cycle_of_error hlive hd] at h
    cases h
    rfl
  | ok r =>
    obtain ⟨_, hunmapped⟩ := State.serve_fault ((State.cycle_of_ok hlive hd).symm.trans h)
    cases hunmapped

theorem State.Inv.cycle {s t : State} (hs : s.Inv) (h : s.cycle = .next t) : t.Inv := by
  obtain ⟨hwf, -⟩ := hs
  have hc := State.cycle_next h
  exact ⟨hc.wf hwf, hc.fault, hc.inStep, hc.starts⟩

/-- In step with the pins, a cycle inside an instruction has a micro-step left; any other cycle starts a program (R254). -/
theorem State.Inv.stepZero_of_cycle {s : State} {op : Byte} {k : BitVec 3} (hs : s.Inv)
    (h : s.cycle = .fault (.engine (.unimplementedOpcode op k))) : k = 0#3 := by
  obtain ⟨-, hlive, ⟨-, hle, hsync⟩, -⟩ := hs
  obtain ⟨rfl, hover⟩ := overrun_of_dispatch (State.dispatch_of_cycle_fault hlive h)
  rcases Core.beforeDispatch_ir_cases { s.core with pinsPrev := drive s.core.pinsPrev .phi2 false }
    (presentInputs (drive s.pins .phi2 false) s.nextInputs) with hzero | ⟨hlow, hir⟩
  · exact hzero
  · rw [State.dispatchCore, hir] at hover
    have hhigh := hsync.mpr (Nat.le_antisymm hle hover)
    simp [pin_presentInputs, pin_drive, hhigh] at hlow

theorem State.Inv.stepZero_of_cycles {s : State} {op : Byte} {k : BitVec 3} {n : Nat} (hs : s.Inv)
    (h : s.cycles n = .fault (.engine (.unimplementedOpcode op k))) : k = 0#3 := by
  induction n generalizing s with
  | zero => cases h
  | succ n ih =>
    cases hc : s.cycle with
    | next t => exact ih (hs.cycle hc) ((State.cycles_succ_of_next n hc).symm.trans h)
    | fault f => exact hs.stepZero_of_cycle (hc.trans ((State.cycles_succ_of_fault n hc).symm.trans h))
    | refused r => simp [State.cycles, hc] at h

/-- Settles O56: a step is a number of system cycles, and each of them keeps the invariant. -/
theorem noStepOverrun : Obligations.NoStepOverrun := by
  intro s op k hs h
  obtain ⟨n, -, hn⟩ := stepIsSystemCycles s
  exact hs.stepZero_of_cycles (hn.symm.trans h)

end Sys2Proof.Machine
end

section
/-! SUPPORT. Faults, refusals and lengths: a fault stays, no instruction is refused, and an admitted one stops only at a read
of an unmapped address or in decimal mode (`60_exceptions.md` R210 to R212; `20_memory.md` R58; `70_reset_and_hazards.md`
R255). -/

namespace Sys2Proof.Machine

/-! ### A fault stays -/

/-- A dead core raises its fault at every call and does not change (R212). -/
theorem tick_of_dead {c : Core} {f : EngineFault} (h : c.fault = some f) (p : Pins) : tick c p = .raised f c := by
  simp [tick, h]

/-- Settles O8: the core that a raising call leaves is dead, and a dead core answers every call alike. -/
theorem faultsAreTerminal : Obligations.FaultsAreTerminal := by
  refine ⟨fun c c' p f h => ?_, fun s f h => by simp [step, h]⟩
  have hdead : c'.fault = some f := by
    cases hc : c.fault with
    | some g =>
      rw [tick_of_dead hc] at h
      cases h
      exact hc
    | none =>
      cases he : risingEdge c p with
      | false =>
        rw [tick_of_no_edge hc he] at h
        cases h
      | true =>
        rw [tick, hc] at h
        simp only [he, if_true] at h
        rw [tickEdge_raised h]
  exact ⟨hdead, tick_of_dead hdead⟩

/-! ### What a stop can be -/

/-- The outcome is no refusal, and a fault of it is a read at an address that `map` leaves unmapped, or an engine fault that
`engine` allows. -/
def StopsOnly (map : List Region) (engine : EngineFault → Prop) : Result → Prop
  | .next _ => True
  | .fault (.unmappedRead a) => kindAt map a = none
  | .fault (.engine f) => engine f
  | .refused _ => False

section
variable {map : List Region} {engine : EngineFault → Prop} {s : State}

theorem State.readThen_stopsOnly {a : Word} {k : Byte → Result} (hmap : s.map = map)
    (hk : ∀ v, StopsOnly map engine (k v)) : StopsOnly map engine (s.readThen a k) := by
  subst hmap
  by_cases h : s.Mapped a
  · rw [State.readThen_of_some (State.readByte_of_mapped h)]
    exact hk _
  · rw [State.readThen_of_none (State.readByte_unmapped h)]
    exact Option.not_isSome_iff_eq_none.mp h

theorem State.fetchNext_stopsOnly (opcode : Byte) (len : BitVec 3) (bus : Byte) (hmap : s.map = map) :
    StopsOnly map engine (s.fetchNext opcode len bus) := by
  rw [State.fetchNext, State.serve, if_pos (by simp)]
  exact State.readThen_stopsOnly hmap fun _ => trivial

theorem State.pushOrRead_stopsOnly {reset : Bool} {v : Byte} {k : State → Result} (hmap : s.map = map)
    (hk : ∀ t, t.map = map → StopsOnly map engine (k t)) : StopsOnly map engine (s.pushOrRead reset v k) := by
  cases reset with
  | true => exact State.readThen_stopsOnly hmap fun _ => hk _ hmap
  | false => exact hk _ ((State.push_map s v).trans hmap)

theorem State.brkSequence_stopsOnly (flags : BitVec 3) (hmap : s.map = map) :
    StopsOnly map engine (s.brkSequence flags) := by
  unfold State.brkSequence
  refine State.pushOrRead_stopsOnly ((s.passTicks_same 4).map.trans hmap) fun t1 h1 => ?_
  refine State.pushOrRead_stopsOnly h1 fun t2 h2 => ?_
  refine State.pushOrRead_stopsOnly h2 fun t3 h3 => ?_
  refine State.readThen_stopsOnly h3 fun l => ?_
  have h4 := (State.passTicks_same 2 _).map.trans h3
  exact State.readThen_stopsOnly h4 fun b => State.fetchNext_stopsOnly _ _ _ h4

end

/-! ### The stops of each operand form -/

section
variable {engine : EngineFault → Prop}

theorem immediate_stopsOnly {opcode v : Byte} {op : ReadOp} {s : State}
    (hop : op s.core.a s.core.p v = none → engine (.decimalModeUnsupported opcode 1#3)) :
    StopsOnly s.map engine (immediate opcode op v s) := by
  simp only [immediate, State.instrTicks_a, State.instrTicks_p]
  split
  · exact State.fetchNext_stopsOnly _ _ _ (s.instrTicks_map 2)
  · next h => exact hop h

theorem absoluteRead_stopsOnly {opcode : Byte} {op : ReadOp} {addr : Word} {s : State}
    (hop : ∀ v, op s.core.a s.core.p v = none → engine (.decimalModeUnsupported opcode 3#3)) :
    StopsOnly s.map engine (absoluteRead opcode op addr s) := by
  refine State.readThen_stopsOnly (s.instrTicks_map 4) fun v => ?_
  simp only [State.instrTicks_a, State.instrTicks_p]
  split
  · exact State.fetchNext_stopsOnly _ _ _ (s.instrTicks_map 4)
  · next h => exact hop v h

variable (s : State)

theorem absoluteWrite_stopsOnly (opcode v : Byte) (addr : Word) :
    StopsOnly s.map engine (absoluteWrite opcode v addr s) :=
  State.fetchNext_stopsOnly _ _ _ (by simp)

theorem absoluteModify_stopsOnly (opcode : Byte) (op : ShiftOp) (addr : Word) :
    StopsOnly s.map engine (absoluteModify opcode op addr s) :=
  State.readThen_stopsOnly (s.instrTicks_map 6) fun _ => State.fetchNext_stopsOnly _ _ _ (by simp)

theorem accumulator_stopsOnly (opcode : Byte) (op : ShiftOp) : StopsOnly s.map engine (accumulator opcode op s) :=
  State.readThen_stopsOnly (s.instrTicks_map 2) fun _ => State.fetchNext_stopsOnly _ _ _ (s.instrTicks_map 2)

theorem impliedFlag_stopsOnly (opcode : Byte) (f : Flag) (value : Bool) :
    StopsOnly s.map engine (impliedFlag opcode f value s) :=
  State.readThen_stopsOnly (s.instrTicks_map 2) fun _ => State.fetchNext_stopsOnly _ _ _ (s.instrTicks_map 2)

theorem execJmp_stopsOnly (addr : Word) : StopsOnly s.map engine (execJmp addr s) :=
  State.fetchNext_stopsOnly _ _ _ (s.instrTicks_map 3)

theorem execJsr_stopsOnly (addr : Word) : StopsOnly s.map engine (execJsr addr s) :=
  State.readThen_stopsOnly (s.instrTicks_map 6) fun _ =>
    State.readThen_stopsOnly (by simp) fun _ => State.fetchNext_stopsOnly _ _ _ (by simp)

theorem execBrk_stopsOnly : StopsOnly s.map engine (execBrk s) :=
  State.readThen_stopsOnly rfl fun _ => State.brkSequence_stopsOnly _ rfl

end

/-! ### Every instruction -/

/-- ADC's and SBC's operations answer none in decimal mode alone (`41_alu.md` R126). -/
theorem decimal_of_opAdc_none {a p v : Byte} (h : opAdc a p v = none) : flag p .d = true := by
  simpa [opAdc] using h

/-- See `decimal_of_opAdc_none`. -/
theorem decimal_of_opSbc_none {a p v : Byte} (h : opSbc a p v = none) : flag p .d = true := by
  simpa [opSbc] using h

/-- The one engine fault of an admitted instruction: ADC or SBC in decimal mode, at the execute step of its form (R211). -/
abbrev DecimalStop (i : Instr) (p : Byte) (f : EngineFault) : Prop :=
  flag p .d = true ∧ i.opcode ∈ [0x69#8, 0x6D#8, 0xE9#8, 0xED#8] ∧
    f = .decimalModeUnsupported i.opcode (if i.opcode ∈ [0x69#8, 0xE9#8] then 1#3 else 3#3)

theorem exec_stopsOnly {i : Instr} (hi : i.admitted = true) (s : State) :
    StopsOnly s.map (DecimalStop i s.core.p) (exec i s) := by
  cases i
  case adcImm v => exact immediate_stopsOnly fun h => ⟨decimal_of_opAdc_none h, by simp [Instr.opcode, encode], rfl⟩
  case sbcImm v => exact immediate_stopsOnly fun h => ⟨decimal_of_opSbc_none h, by simp [Instr.opcode, encode], rfl⟩
  case adcAbs a => exact absoluteRead_stopsOnly fun _ h => ⟨decimal_of_opAdc_none h, by simp [Instr.opcode, encode], rfl⟩
  case sbcAbs a => exact absoluteRead_stopsOnly fun _ h => ⟨decimal_of_opSbc_none h, by simp [Instr.opcode, encode], rfl⟩
  case oraImm v => exact immediate_stopsOnly (op := opOra) nofun
  case andImm v => exact immediate_stopsOnly (op := opAnd) nofun
  case eorImm v => exact immediate_stopsOnly (op := opEor) nofun
  case ldaImm v => exact immediate_stopsOnly (op := opLda) nofun
  case cmpImm v => exact immediate_stopsOnly (op := opCmp) nofun
  case oraAbs a => exact absoluteRead_stopsOnly (op := opOra) nofun
  case andAbs a => exact absoluteRead_stopsOnly (op := opAnd) nofun
  case eorAbs a => exact absoluteRead_stopsOnly (op := opEor) nofun
  case ldaAbs a => exact absoluteRead_stopsOnly (op := opLda) nofun
  case cmpAbs a => exact absoluteRead_stopsOnly (op := opCmp) nofun
  case sta a => exact absoluteWrite_stopsOnly s _ _ a
  case aslAbs a => exact absoluteModify_stopsOnly s _ asl a
  case rolAbs a => exact absoluteModify_stopsOnly s _ rol a
  case lsrAbs a => exact absoluteModify_stopsOnly s _ lsr a
  case rorAbs a => exact absoluteModify_stopsOnly s _ ror a
  case aslAcc => exact accumulator_stopsOnly s _ asl
  case rolAcc => exact accumulator_stopsOnly s _ rol
  case lsrAcc => exact accumulator_stopsOnly s _ lsr
  case rorAcc => exact accumulator_stopsOnly s _ ror
  case clc => exact impliedFlag_stopsOnly s _ .c _
  case sec => exact impliedFlag_stopsOnly s _ .c _
  case cli => exact impliedFlag_stopsOnly s _ .i _
  case sei => exact impliedFlag_stopsOnly s _ .i _
  case cld => exact impliedFlag_stopsOnly s _ .d _
  case sed => exact impliedFlag_stopsOnly s _ .d _
  case clv => exact impliedFlag_stopsOnly s _ .v _
  case jmp a => exact execJmp_stopsOnly s a
  case jsr a => exact execJsr_stopsOnly s a
  case brk => exact execBrk_stopsOnly s
  all_goals cases hi

/-- Settles O35: the stops of every operand form; an instruction without a micro-program faults. -/
theorem stopsOfAdmittedInstructions : Obligations.StopsOfAdmittedInstructions := by
  refine ⟨fun i s r h => ?_, fun i s f hi h => ?_⟩
  · cases hi : i.admitted with
    | true =>
      have hstops := exec_stopsOnly hi s
      rw [h] at hstops
      exact hstops
    | false =>
      rw [exec_of_not_admitted hi] at h
      cases h
  · have hstops := exec_stopsOnly hi s
    rw [h] at hstops
    cases f with
    | unmappedRead a =>
      have hnone : kindAt s.map a = none := hstops
      exact .inl ⟨a, rfl, by simp [State.readByte, hnone]⟩
    | engine e =>
      obtain ⟨hd, hop, rfl⟩ := hstops
      exact .inr ⟨hd, hop, rfl⟩

/-! ### Lengths -/

/-- Settles O46: the length of each instruction's program in the table. -/
theorem cycleCounts : Obligations.CycleCounts := by
  simp only [Obligations.CycleCounts, List.forall_mem_cons]
  exact ⟨⟨rfl, rfl, rfl, rfl, rfl, rfl, rfl, rfl, rfl, rfl, rfl, nofun⟩,
    fun _ => ⟨rfl, rfl, rfl, rfl, rfl, rfl, rfl, nofun⟩,
    fun _ => ⟨⟨rfl, rfl, rfl, rfl, rfl, rfl, rfl, rfl, nofun⟩, ⟨rfl, rfl, rfl, rfl, nofun⟩, rfl, rfl⟩, rfl⟩

end Sys2Proof.Machine
end

section
/-! SUPPORT. The entry of an interrupt: what the flags recognised at the SYNC tick decide, IRQ and NMI with their pushes, and
the sequence of a pending reset, whose pushes are reads (`60_exceptions.md` R214, R218 to R228). -/

namespace Sys2Proof.Machine

/-- Settles O43: the seven ticks of a sequence that a SYNC tick starts. -/
theorem interruptIsItsTicks : Obligations.InterruptIsItsTicks := fun _ => State.takeInterrupt_cycles

/-! ### What the pending flags decide -/

theorem resetPending_eq_getLsbD : ∀ flags : BitVec 3, resetPending flags = flags.getLsbD 2 := by decide

/-- IRQ or NMI pending: the sequence pushes PC as it stands (R222). -/
theorem pending_of_irq_or_nmi : ∀ flags : BitVec 3, (flags.getLsbD 0 || flags.getLsbD 1) = true →
    flags ≠ 0#3 ∧ flags &&& (irqFlag ||| nmiFlag) ≠ 0#3 := by decide

/-- RESET over NMI over IRQ (R218). -/
theorem vectorFor_of_flags : ∀ flags : BitVec 3,
    vectorFor flags = if flags.getLsbD 2 then 0xFFFC#16 else if flags.getLsbD 1 then 0xFFFA#16 else 0xFFFE#16 := by decide

/-- Entry sets B, so that a sequence that started by clearing it ends as one that did not (R98, R225). -/
theorem maskedStatus_setFlag_b (p : Byte) (v : Bool) : maskedStatus (setFlag p .b v) = p ||| 0x14#8 := by
  rw [← maskedStatus_eq]
  refine BitVec.eq_of_getLsbD_eq fun k _ => ?_
  simp only [maskedStatus, getLsbD_setFlag]
  split <;> rfl

/-! ### The step that takes an interrupt -/

section
variable {s : State}

theorem State.step_of_pending (hlive : s.core.fault = none) (hsync : pin s.pins .sync = true)
    (hresb : s.resbHigh 7 = true) (hpending : s.pendingAtSync ≠ 0#3) : step s = s.takeInterrupt := by
  simp [step, hlive, State.nextInstr, State.interruptNext, State.fetchQueued, hsync, hpending, hresb]

/-- Step 0 reads at PC, which stays, and B is clear (R219, R221). -/
theorem State.takeInterrupt_of_mapped (hmapped : s.Mapped s.core.pc) :
    s.takeInterrupt =
      (s.entryStart (setFlag s.core.p .b false) s.core.pc s.pendingAtSync).brkSequence s.pendingAtSync :=
  State.readThen_of_some (s := s.entryStart (setFlag s.core.p .b false) s.core.pc s.pendingAtSync)
    (State.readByte_of_mapped hmapped) _

/-- IRQ and NMI entry, whichever vector the flags select. -/
theorem State.interrupt_completes {l h : Byte} (hlive : s.core.fault = none) (hsync : pin s.pins .sync = true)
    (hresb : s.resbHigh 7 = true) (hpending : (s.pendingAtSync.getLsbD 0 || s.pendingAtSync.getLsbD 1) = true)
    (hreset : s.pendingAtSync.getLsbD 2 = false) (hpc : s.Mapped s.core.pc)
    (hl : s.readByte (vectorFor s.pendingAtSync) = some l) (hh : s.readByte (vectorFor s.pendingAtSync + 1#16) = some h)
    (hhandler : s.Mapped (join h l)) :
    ∃ t, step s = .next t ∧ s.EntryPushed t s.core.pc ((s.core.p &&& 0xEF#8) ||| 0x20#8) ∧
      t.core.s = s.core.s - 3#8 ∧ t.core.p = s.core.p ||| 0x14#8 ∧ t.core.a = s.core.a ∧ t.core.ad = l.setWidth 16 ∧
      t.core.brkFlags = 0#3 ∧ s.Ends t 0x00#8 7 (join h l) := by
  obtain ⟨hsome, hreturn⟩ := pending_of_irq_or_nmi _ hpending
  obtain ⟨t, ht, hpushed, hs, hp, hrest⟩ := State.entryStart_completes ((resetPending_eq_getLsbD _).trans hreset) hl hh
    hhandler (setFlag s.core.p .b false) s.core.pc s.pendingAtSync
  rw [returnAddress, if_neg hreturn] at hpushed
  exact ⟨t, (State.step_of_pending hlive hsync hresb hsome).trans ((State.takeInterrupt_of_mapped hpc).trans ht), hpushed,
    hs, hp.trans (maskedStatus_setFlag_b _ _), hrest⟩

end

/-- Settles O38: recognition leaves IRQ pending alone, which selects the vector at 0xFFFE. -/
theorem irqEntry : Obligations.IrqEntry := by
  intro s l h hlive hsync hresb hirq hnmi hpip hreset hpc hl hh hhandler
  obtain ⟨hbit0, hbit1, hbit2⟩ := getLsbD_recognised s.core.brkFlags s.core.irqPip s.core.nmiPip
  have hirq : s.pendingAtSync.getLsbD 0 = true := hbit0.trans (by simpa using hirq)
  have hnmi : s.pendingAtSync.getLsbD 1 = false := hbit1.trans (by rw [hnmi]; simpa using hpip)
  have hreset : s.pendingAtSync.getLsbD 2 = false := hbit2.trans hreset
  have hvector : vectorFor s.pendingAtSync = 0xFFFE#16 := by
    rw [vectorFor_of_flags, hreset, hnmi]
    rfl
  obtain ⟨t, ht, ⟨hhigh, hlow, hstatus, hother⟩, hregisters⟩ := State.interrupt_completes hlive hsync hresb
    (by simp [hirq]) hreset hpc (hvector ▸ hl) (hvector ▸ hh) hhandler
  exact ⟨t, ht, hhigh, hlow, hstatus, hother, hregisters⟩

/-- Settles O39: NMI pending selects the vector at 0xFFFA, whatever else but RESET is. -/
theorem nmiEntry : Obligations.NmiEntry := by
  intro s l h hlive hsync hresb hnmi hreset hpc hl hh hhandler
  obtain ⟨-, hbit1, hbit2⟩ := getLsbD_recognised s.core.brkFlags s.core.irqPip s.core.nmiPip
  have hnmi : s.pendingAtSync.getLsbD 1 = true := hbit1.trans (by simpa using hnmi)
  have hreset : s.pendingAtSync.getLsbD 2 = false := hbit2.trans hreset
  have hvector : vectorFor s.pendingAtSync = 0xFFFA#16 := by
    rw [vectorFor_of_flags, hreset, hnmi]
    rfl
  obtain ⟨t, ht, ⟨hhigh, hlow, hstatus, hother⟩, hregisters⟩ := State.interrupt_completes hlive hsync hresb
    (by simp [hnmi]) hreset hpc (hvector ▸ hl) (hvector ▸ hh) hhandler
  exact ⟨t, ht, hhigh, hlow, hstatus, hother, hregisters⟩

/-! ### A pending reset -/

/-- With a reset pending, steps 1 to 6 have run from `s` to `t`: the instruction at `pc` starts, and memory is as it was. -/
structure State.ResetEntered (s t : State) (pc : Word) (l : Byte) : Prop where
  starts : t.StartsAt pc
  a : t.core.a = s.core.a
  x : t.core.x = s.core.x
  y : t.core.y = s.core.y
  sp : t.core.s = s.core.s - 3#8
  p : t.core.p = maskedStatus s.core.p
  ad : t.core.ad = l.setWidth 16
  ir : t.core.ir = ⟨0x00#8, 7#3⟩
  brkFlags : t.core.brkFlags = 0#3
  fault : t.core.fault = s.core.fault
  mem : t.mem = s.mem
  map : t.map = s.map
  pins : t.pins = setData t.core.pinsPrev (getData t.pins)

/-- S moved down, and nothing else: what suppressed pushes leave. -/
def State.lower (s : State) (n : Byte) : State := { s with core := { s.core with s := s.core.s - n } }

theorem State.lower_lower (s : State) (m n : Byte) : (s.lower m).lower n = s.lower (m + n) := by
  simp only [State.lower, BitVec.sub_sub]

/-- A suppressed push is a read, discarded. -/
theorem State.pushOrRead_of_reset {s : State} (h : s.Mapped (stackSlot s.core.s)) (v : Byte) (k : State → Result) :
    s.pushOrRead true v k = k (s.lower 1#8) :=
  State.readThen_of_some (State.readByte_of_mapped h) _

theorem State.pushes_of_reset {s : State} (hslots : ∀ a ∈ brkSlots s.core.s, s.Mapped a) (ret : Word) (k : State → Result) :
    (s.pushOrRead true (hi ret) fun s => s.pushOrRead true (lo ret) fun s => s.pushOrRead true (pushedStatus s.core.p) k) =
      k (s.lower 3#8) := by
  have hmapped : s.Mapped (stackSlot s.core.s) ∧ s.Mapped (stackSlot (s.core.s - 1#8)) ∧
      s.Mapped (stackSlot (s.core.s - 2#8)) := by simpa using hslots
  obtain ⟨h1, h2, h3⟩ := hmapped
  rw [State.pushOrRead_of_reset h1, State.pushOrRead_of_reset (s := s.lower 1#8) h2, State.lower_lower]
  rw [State.pushOrRead_of_reset (s := s.lower (1#8 + 1#8)) h3, State.lower_lower]
  rfl

/-- After the reads at steps 1 to 3, and the ticks of steps 1 to 4. -/
def State.entryReads (s : State) : State := (s.passTicks 4).lower 3#8

@[simp] theorem State.entryReads_map (s : State) : s.entryReads.map = s.map := (s.passTicks_same 4).map

@[simp] theorem State.entryReads_readByte (s : State) (a : Word) : s.entryReads.readByte a = s.readByte a :=
  s.passTicks_readByte 4 a

@[simp] theorem State.entryReads_inputs (s : State) : s.entryReads.inputs = s.inputs.drop 4 := s.passTicks_inputs 4

theorem State.brkSequence_of_reset {s : State} {flags : BitVec 3} (hreset : resetPending flags = true)
    (hslots : ∀ a ∈ brkSlots s.core.s, s.Mapped a) :
    s.brkSequence flags = s.entryReads.readThen (vectorFor flags) fun l =>
      s.entryReads.entryMasks.readThen (vectorFor flags + 1#16) fun h =>
        (s.entryReads.entryMasks.entryJump h l).fetchNext 0x00#8 7#3 h := by
  have hticks := s.passTicks_same 4
  rw [State.brkSequence, hreset]
  exact State.pushes_of_reset (by simpa only [State.Mapped, hticks.sp, hticks.map] using hslots) _ _

/-- Where the stack, the vector and the handler are mapped, the sequence of a pending reset completes. -/
theorem State.brkSequence_completes_of_reset {s : State} {flags : BitVec 3} {l h : Byte}
    (hreset : flags.getLsbD 2 = true) (hslots : ∀ a ∈ brkSlots s.core.s, s.Mapped a)
    (hl : s.readByte 0xFFFC#16 = some l) (hh : s.readByte 0xFFFD#16 = some h) (hhandler : s.Mapped (join h l)) :
    ∃ t, s.brkSequence flags = .next t ∧ s.ResetEntered t (join h l) l ∧ t.inputs = s.inputs.drop 6 := by
  have hpending : resetPending flags = true := (resetPending_eq_getLsbD _).trans hreset
  have hvector : vectorFor flags = 0xFFFC#16 := by
    rw [vectorFor_of_flags, hreset]
    rfl
  have hreads : s.brkSequence flags = (s.entryReads.entryMasks.entryJump h l).fetchNext 0x00#8 7#3 h := by
    rw [State.brkSequence_of_reset hpending hslots, hvector, State.readThen_of_some ((s.entryReads_readByte _).trans hl)]
    exact State.readThen_of_some ((State.entryMasks_readByte _ _).trans ((s.entryReads_readByte _).trans hh)) _
  obtain ⟨t, ht, hpins⟩ := State.fetchNext_of_mapped (s := s.entryReads.entryMasks.entryJump h l)
    (by simpa [State.entryJump] using hhandler) 0x00#8 7#3 h
  obtain ⟨hstarts, -, -, hinputs, hcore⟩ := State.fetchNext_next ht
  obtain ⟨hdone, ha, -, hp, hflags, hmem, -⟩ := State.brkSequence_next (hreads.trans ht)
  exact ⟨t, hreads.trans ht, ⟨hstarts, ha, hdone.x, hdone.y, (State.brkSequence_frame (hreads.trans ht)).sp, hp,
    by rw [hcore]; rfl, hdone.ir, hflags, hdone.fault, hmem hpending, hdone.map, hpins⟩,
    by simpa [State.entryJump] using hinputs⟩

end Sys2Proof.Machine
end

section
/-! SUPPORT. Bus cycles (`20_memory.md` R52): the first cycle of a run that answers, read off its micro-step, and what a run
that starts an instruction ends with (`40_engine.md` R104 to R110). -/

namespace Sys2Proof.Machine

/-! ### The trace of a run that answers -/

theorem State.cycles_succ_next {s w : State} {n : Nat} (h : s.cycles (n + 1) = .next w) :
    ∃ t, s.cycle = .next t ∧ t.cycles n = .next w := by
  cases hc : s.cycle with
  | next t => exact ⟨t, rfl, (State.cycles_succ_of_next n hc).symm.trans h⟩
  | fault f => simp [State.cycles, hc] at h
  | refused r => simp [State.cycles, hc] at h

theorem State.trace_succ_of_next {s t : State} (n : Nat) (h : s.cycle = .next t) :
    s.trace (n + 1) = busCycle t.pins :: t.trace n := by
  simp [State.trace, h]

/-- The first cycle of a run from `s` to `w` has the bus cycle `c` and leads to `t`, from where `n` cycles are left. -/
structure State.BusTo (s t w : State) (n : Nat) (c : BusCycle) : Prop where
  run : t.cycles n = .next w
  trace : s.trace (n + 1) = c :: t.trace n
  bus : busCycle t.pins = c

theorem State.BusTo.of_cycle {s t w : State} {n : Nat} {c : BusCycle} (hcycle : s.cycle = .next t)
    (hrun : t.cycles n = .next w) (hbus : busCycle t.pins = c) : s.BusTo t w n c :=
  ⟨hrun, hbus ▸ State.trace_succ_of_next n hcycle, hbus⟩

theorem State.BusTo.data {s t w : State} {n : Nat} {c : BusCycle} (h : s.BusTo t w n c) : getData t.pins = c.data :=
  congrArg BusCycle.data h.bus

theorem State.BusTo.address {s t w : State} {n : Nat} {c : BusCycle} (h : s.BusTo t w n c) :
    getAddress t.pins = c.address := congrArg BusCycle.address h.bus

/-- The last cycle of a run to the start of an instruction is its fetch. -/
theorem State.StartsAt.trace_one {s t : State} {a : Word} (h : t.StartsAt a) (hrun : s.cycles 1 = .next t) :
    s.trace 1 = [⟨a, true, getData t.pins, true⟩] := by
  obtain ⟨-, hsync, hrwb, haddress, -⟩ := h
  rw [State.trace_succ_of_next 0 (s.cycles_one.symm.trans hrun), busCycle, haddress, hrwb, hsync]
  rfl

theorem State.serve_next_of_read {s t : State} (hr : pin s.pins .rwb = true) (h : s.serve = .next t) :
    ∃ b, s.readByte (getAddress s.pins) = some b ∧ t = { s with pins := setData s.pins b } := by
  rw [State.serve, if_pos hr] at h
  obtain ⟨b, hb, h⟩ := State.readThen_next h
  cases h
  exact ⟨b, hb, rfl⟩

/-! ### A bus cycle that is not the last -/

section
variable {m n : Nat} {opcode : Byte} {k : BitVec 3} {pc ad pc' ad' a : Word} {b : Byte} {u s w : State} {f : MicroStep}
  {q : Pins} (h : State.Runs (m + 2) (n + 1) opcode k pc ad u s) (hstep : StepAt opcode k f false)
  (hrun : s.cycles (m + 2) = .next w)
include h hstep hrun

section
variable {sp p' : Byte} {flags : BitVec 3}
  (hok : f s.dispatchCore s.tickPins =
    .ok ({ s.dispatchCore with s := sp, p := p', brkFlags := flags, pc := pc', ad := ad' }, q))
  (hi : n = 0 ∨ flag p' .i = flag u.core.p .i) (ha : getAddress q = a)
include hok hi ha

theorem State.Runs.readBus (hr : pin q .rwb = true) :
    ∃ t b, u.readByte a = some b ∧ s.BusTo t w (m + 1) ⟨a, true, b, false⟩ ∧
      State.Runs (m + 1) n opcode (k + 1#3) pc' ad' (u.withRegisters sp p' flags) t := by
  subst ha
  obtain ⟨t, hcycle, hrest⟩ := State.cycles_succ_next hrun
  have hserve := (h.cycle_of_ok hstep hok).symm.trans hcycle
  obtain ⟨b, hb, rfl⟩ := State.serve_next_of_read (by exact hr) hserve
  have hread : ∀ c i, ({ s with core := c, pins := q, inputs := i } : State).readByte (getAddress q) =
      u.readByte (getAddress q) := fun _ _ => h.readByte _
  have hsync : pin q .sync = false := ((hstep.keeps _ _ _ _ hok).quiet rfl).trans s.tickPins_sync
  exact ⟨_, b, (hread _ _).symm.trans hb, .of_cycle hcycle hrest (by simp [busCycle, hr, hsync]),
    h.next hstep hok hi rfl rfl (pin_setData _ _ _) (fun j hj => passed_setData _ _ _ hj) h.mem h.map rfl
      (.withRegisters u sp p' flags)⟩

theorem State.Runs.writeBus (hw : pin q .rwb = false) (hb : getData q = b) :
    ∃ t, s.BusTo t w (m + 1) ⟨a, false, b, false⟩ ∧
      State.Runs (m + 1) n opcode (k + 1#3) pc' ad' ((u.withRegisters sp p' flags).writeByte a b) t := by
  subst ha hb
  have hcycle := (h.cycle_of_ok hstep hok).trans (State.serve_write hw)
  have hsync : pin q .sync = false := ((hstep.keeps _ _ _ _ hok).quiet rfl).trans s.tickPins_sync
  exact ⟨_, .of_cycle hcycle ((State.cycles_succ_of_next _ hcycle).symm.trans hrun) (by simp [busCycle, hw, hsync]),
    h.next hstep hok hi (State.writeByte_core _ _ _) (State.writeByte_inputs _ _ _) (by simp) (fun _ _ => by simp)
      (by exact State.writeByte_mem_congr (by exact h.map) (by exact h.mem) _ _) (by simpa using h.map)
      (State.writeByte_core _ _ _) ((State.SameLines.withRegisters u sp p' flags).trans (.writeByte _ _ _))⟩

end

/-- A read step that writes PC and AD alone. -/
theorem State.Runs.readStepBus (hok : f s.dispatchCore s.tickPins =
      .ok ({ s.dispatchCore with pc := pc', ad := ad' }, setAddress s.tickPins a)) :
    ∃ t b, u.readByte a = some b ∧ s.BusTo t w (m + 1) ⟨a, true, b, false⟩ ∧
      State.Runs (m + 1) n opcode (k + 1#3) pc' ad' u t := by
  have hok' : f s.dispatchCore s.tickPins =
      .ok ({ s.dispatchCore with s := u.core.s, p := u.core.p, brkFlags := u.core.brkFlags, pc := pc', ad := ad' },
        setAddress s.tickPins a) := by
    rw [hok, ← h.core_s, ← h.core_p, ← h.core_brkFlags]
  exact h.readBus hstep hrun hok' (.inr rfl) (by simp) (by simp)

/-- The same at a byte that is known. -/
theorem State.Runs.readKnownBus (hok : f s.dispatchCore s.tickPins =
      .ok ({ s.dispatchCore with pc := pc', ad := ad' }, setAddress s.tickPins a)) (hb : u.readByte a = some b) :
    ∃ t, s.BusTo t w (m + 1) ⟨a, true, b, false⟩ ∧ State.Runs (m + 1) n opcode (k + 1#3) pc' ad' u t := by
  obtain ⟨t, b', hb', hbus, ht⟩ := h.readStepBus hstep hrun hok
  obtain rfl := Option.some.inj (hb.symm.trans hb')
  exact ⟨t, hbus, ht⟩

/-- A write step that writes PC and AD alone. -/
theorem State.Runs.writeStepBus (hok : f s.dispatchCore s.tickPins =
      .ok ({ s.dispatchCore with pc := pc', ad := ad' }, q)) (ha : getAddress q = a) (hw : pin q .rwb = false)
    (hb : getData q = b) :
    ∃ t, s.BusTo t w (m + 1) ⟨a, false, b, false⟩ ∧
      State.Runs (m + 1) n opcode (k + 1#3) pc' ad' (u.writeByte a b) t := by
  have hok' : f s.dispatchCore s.tickPins =
      .ok ({ s.dispatchCore with s := u.core.s, p := u.core.p, brkFlags := u.core.brkFlags, pc := pc', ad := ad' },
        q) := by
    rw [hok, ← h.core_s, ← h.core_p, ← h.core_brkFlags]
  exact h.writeBus hstep hrun hok' (.inr rfl) ha hw hb

end

/-! ### A push -/

/-- The bus cycle of a push of `v` at this S: a write, or for a reset a read (`60_exceptions.md` R222 to R224). -/
def pushBusCycle (mem : Memory) (sp : Byte) (reset : Bool) (v : Byte) : BusCycle :=
  ⟨stackSlot sp, reset, if reset then mem.read (stackSlot sp).toNat else v, false⟩

theorem pushBusCycle_afterPush (u : State) (sp : Byte) (reset : Bool) (v v' : Byte) :
    pushBusCycle (u.afterPush reset v).mem sp reset v' = pushBusCycle u.mem sp reset v' := by
  cases reset <;> rfl

theorem State.mem_read_of_readByte {s : State} {a : Word} {b : Byte} (h : s.readByte a = some b) :
    s.mem.read a.toNat = b := by
  unfold State.readByte at h
  split at h
  · exact Option.some.inj h
  · cases h

theorem pushBusCycle_of_reset {s : State} {sp d : Byte} (h : s.readByte (stackSlot sp) = some d) (v : Byte) :
    pushBusCycle s.mem sp true v = ⟨stackSlot sp, true, d, false⟩ := by
  rw [pushBusCycle, if_pos rfl, State.mem_read_of_readByte h]

/-- Both kinds of push (R171, R222 to R224). -/
theorem State.Runs.pushBus {m n : Nat} {opcode : Byte} {k : BitVec 3} {pc ad pc' ad' : Word} {b : Byte} {u s w : State}
    {f : MicroStep} {reset : Bool} (h : State.Runs (m + 2) (n + 1) opcode k pc ad u s) (hstep : StepAt opcode k f false)
    (hrun : s.cycles (m + 2) = .next w)
    (hok : f s.dispatchCore s.tickPins =
      .ok ({ s.dispatchCore with s := s.dispatchCore.s - 1#8, pc := pc', ad := ad' },
        pushVector s.dispatchCore s.tickPins b reset)) :
    ∃ t, s.BusTo t w (m + 1) (pushBusCycle u.mem u.core.s reset b) ∧
      State.Runs (m + 1) n opcode (k + 1#3) pc' ad' (u.afterPush reset b) t := by
  have hok' : f s.dispatchCore s.tickPins =
      .ok ({ s.dispatchCore with
          s := u.core.s - 1#8, p := u.core.p, brkFlags := u.core.brkFlags, pc := pc', ad := ad' },
        pushVector s.dispatchCore s.tickPins b reset) := by
    rw [hok, ← h.core_s, ← h.core_p, ← h.core_brkFlags]
  have ha : getAddress (pushVector s.dispatchCore s.tickPins b reset) = stackSlot u.core.s := by
    rw [getAddress_pushVector, h.core_stackAddress, Core.stackAddress_eq]
  cases reset with
  | true =>
    obtain ⟨t, d, hd, hbus, ht⟩ := h.readBus hstep hrun hok' (.inr rfl) ha (by simp)
    exact ⟨t, pushBusCycle_of_reset hd b ▸ hbus, ht⟩
  | false =>
    obtain ⟨t, hbus, ht⟩ := h.writeBus hstep hrun hok' (.inr rfl) ha (by simp) (getData_pushVector _ _ _ _)
    have hpush : (u.withRegisters (u.core.s - 1#8) u.core.p u.core.brkFlags).writeByte (stackSlot u.core.s) b =
        u.afterPush false b := by
      show _ = u.push b
      simp only [State.writeByte_withRegisters, State.push, State.writeByte_core, Core.stackAddress_eq]
    exact ⟨t, hbus, hpush ▸ ht⟩

end Sys2Proof.Machine
end

section
/-! SUPPORT. The bus cycles of each operand form, of a BRK sequence, and of the sequence of a pending reset
(`70_reset_and_hazards.md` R255; `40_engine.md` R105 to R110; `45_jump.md` R170, R171; `60_exceptions.md` R221 to R227). -/

namespace Sys2Proof.Machine

theorem State.mapped_of_readByte {s : State} {a : Word} {b : Byte} (h : s.readByte a = some b) : s.Mapped a := by
  by_contra hunmapped
  rw [State.readByte_unmapped hunmapped] at h
  cases h

theorem State.Done.trace_last {r s t : State} {opcode : Byte} {len : BitVec 3} {a : Word} (h : r.Done t opcode len)
    (hpc : t.core.pc = a) (hrun : s.cycles 1 = .next t) : s.trace 1 = [⟨a, true, getData t.pins, true⟩] :=
  State.StartsAt.trace_one (hpc ▸ h.starts) hrun

/-- `SA(PC)`, the byte discarded. -/
theorem State.Runs.dummyReadBus {m n : Nat} {opcode : Byte} {k : BitVec 3} {pc ad : Word} {b : Byte} {u s w : State}
    (h : State.Runs (m + 2) (n + 1) opcode k pc ad u s) (hstep : StepAt opcode k dummyReadStep false)
    (hb : u.readByte pc = some b) (hrun : s.cycles (m + 2) = .next w) :
    ∃ t, s.BusTo t w (m + 1) ⟨pc, true, b, false⟩ ∧ State.Runs (m + 1) n opcode (k + 1#3) pc ad u t := by
  obtain rfl := h.core_pc
  obtain rfl := h.core_ad
  exact h.readKnownBus hstep hrun rfl hb

/-! ### The 2-tick forms -/

section
variable {opcode : Byte} {s t : State}

/-- The first tick of an instruction with an operand reads the operand byte. -/
theorem State.Fetched.operandBus {m : Nat} {b : Byte} {w : State} (h : s.Fetched opcode (m + 2))
    (hstep : StepAt opcode 0#3 operandStep false) (hb : s.readByte (s.core.pc + 1#16) = some b)
    (hrun : s.cycles (m + 2) = .next w) :
    ∃ t, s.BusTo t w (m + 1) ⟨s.core.pc + 1#16, true, b, false⟩ ∧
      State.Runs (m + 1) (m + 1) opcode 1#3 (s.core.pc + 2#16) s.core.ad (s.instrTicks (m + 2)) t := by
  have hruns := h.runs (m + 1)
  rw [State.instrTicks_byteAddress, State.instrTicks_ad] at hruns
  refine hruns.readKnownBus hstep hrun (ad' := s.core.ad) ?_ (by simpa using hb)
  rw [operandStep, hruns.core_pc, ← hruns.core_ad, BitVec.add_assoc]
  rfl

theorem immediate_trace {op : ReadOp} {v : Byte} (hprog : microProgram opcode = some (immProgram op))
    (h : s.Fetched opcode 2) (hv : s.readByte (s.core.pc + 1#16) = some v) (ht : immediate opcode op v s = .next t) :
    s.trace 2 = [⟨s.core.pc + 1#16, true, v, false⟩, ⟨s.core.pc + 2#16, true, getData t.pins, true⟩] := by
  obtain ⟨hdone, -, a, p, -, hcore⟩ := immediate_next ht
  have hpc : t.core.pc = s.core.pc + 2#16 := by rw [hcore]
  obtain ⟨t1, b1, -⟩ := h.operandBus (m := 0) ⟨_, hprog, rfl, rfl⟩ hv ((immediate_cycles hprog h hv).trans ht)
  rw [b1.trace, hdone.trace_last hpc b1.run]

/-- The implied and accumulator forms read the byte after the opcode twice (`20_memory.md` R62). -/
theorem State.Fetched.dummyRead_trace {f : MicroStep} (h : s.Fetched opcode 2)
    (hprog : microProgram opcode = some [dummyReadStep, f]) (hrun : s.cycles 2 = .next t)
    (hstarts : t.StartsAt (s.core.pc + 1#16)) (hmap : t.map = s.map) (hmem : t.mem = s.mem) :
    s.trace 2 = [⟨s.core.pc + 1#16, true, getData t.pins, false⟩, ⟨s.core.pc + 1#16, true, getData t.pins, true⟩] := by
  have ⟨_, _, _, _, hbyte⟩ := hstarts
  have hruns := h.runs 1
  rw [State.instrTicks_byteAddress] at hruns
  have hread : (s.instrTicks 2).readByte (s.core.pc + 1#16) = some (getData t.pins) :=
    (s.instrTicks_readByte 2 _).trans ((State.readByte_congr hmap hmem _).symm.trans hbyte)
  obtain ⟨t1, b1, -⟩ := hruns.dummyReadBus (m := 0) ⟨_, hprog, rfl, rfl⟩ hread hrun
  rw [b1.trace, hstarts.trace_one b1.run]

theorem accumulator_trace {op : ShiftOp} (hprog : microProgram opcode = some (accProgram op)) (h : s.Fetched opcode 2)
    (ht : accumulator opcode op s = .next t) :
    s.trace 2 = [⟨s.core.pc + 1#16, true, getData t.pins, false⟩, ⟨s.core.pc + 1#16, true, getData t.pins, true⟩] := by
  obtain ⟨hdone, hmem, hcore⟩ := accumulator_next ht
  have hpc : t.core.pc = s.core.pc + 1#16 := by rw [hcore]
  exact h.dummyRead_trace hprog ((accumulator_cycles hprog h).trans ht) (hpc ▸ hdone.starts) hdone.map hmem

theorem impliedFlag_trace {f : Flag} {value : Bool} (hprog : microProgram opcode = some (impProgram f value))
    (h : s.Fetched opcode 2) (ht : impliedFlag opcode f value s = .next t) :
    s.trace 2 = [⟨s.core.pc + 1#16, true, getData t.pins, false⟩, ⟨s.core.pc + 1#16, true, getData t.pins, true⟩] := by
  obtain ⟨hdone, hmem, hcore⟩ := impliedFlag_next ht
  have hpc : t.core.pc = s.core.pc + 1#16 := by rw [hcore]
  exact h.dummyRead_trace hprog ((impliedFlag_cycles hprog h).trans ht) (hpc ▸ hdone.starts) hdone.map hmem

/-! ### The absolute forms -/

section
variable {addr : Word} (hl : s.readByte (s.core.pc + 1#16) = some (lo addr))
  (hh : s.readByte (s.core.pc + 2#16) = some (hi addr))
include hl hh

/-- The first two ticks of every absolute form but JSR read the two operand bytes. -/
theorem State.Fetched.operandsBus {m : Nat} {w : State} (h : s.Fetched opcode (m + 3))
    (hlow : StepAt opcode 0#3 operandStep false) (hhigh : StepAt opcode 1#3 operandHighStep false)
    (hrun : s.cycles (m + 3) = .next w) :
    ∃ t1 t2, s.BusTo t1 w (m + 2) ⟨s.core.pc + 1#16, true, lo addr, false⟩ ∧
      t1.BusTo t2 w (m + 1) ⟨s.core.pc + 2#16, true, hi addr, false⟩ ∧
      State.Runs (m + 1) (m + 1) opcode 2#3 (s.core.pc + 3#16) ((lo addr).setWidth 16) (s.instrTicks (m + 3)) t2 := by
  obtain ⟨t1, b1, h1⟩ := h.operandBus (m := m + 1) hlow hl hrun
  obtain ⟨t2, b2, h2⟩ := h1.readKnownBus hhigh b1.run (pc' := s.core.pc + 3#16) (ad' := (lo addr).setWidth 16)
    (by rw [operandHighStep, State.getData_tickPins, b1.data, h1.core_pc, BitVec.add_assoc]; rfl) (by simpa using hh)
  exact ⟨t1, t2, b1, b2, h2⟩

theorem absoluteRead_trace {op : ReadOp} {m : Byte} (hprog : microProgram opcode = some (absReadProgram op))
    (h : s.Fetched opcode 4) (hm : s.readByte addr = some m) (ht : absoluteRead opcode op addr s = .next t) :
    s.trace 4 =
      [⟨s.core.pc + 1#16, true, lo addr, false⟩, ⟨s.core.pc + 2#16, true, hi addr, false⟩, ⟨addr, true, m, false⟩,
        ⟨s.core.pc + 3#16, true, getData t.pins, true⟩] := by
  obtain ⟨hdone, -, _, _, _, -, -, hcore⟩ := absoluteRead_next ht
  have hpc : t.core.pc = s.core.pc + 3#16 := by rw [hcore]
  obtain ⟨t1, t2, b1, b2, h2⟩ := h.operandsBus hl hh ⟨_, hprog, rfl, rfl⟩ ⟨_, hprog, rfl, rfl⟩
    ((absoluteRead_cycles hl hh hprog h).trans ht)
  obtain ⟨t3, b3, -⟩ := h2.readKnownBus (f := readEffectiveStep) ⟨_, hprog, rfl, rfl⟩ b2.run
    (by rw [readEffectiveStep, h2.assembled b2.data, join_hi_lo]) (by simpa using hm)
  rw [b1.trace, b2.trace, b3.trace, hdone.trace_last hpc b3.run]

/-- The location is written and not read, so it need not be mapped (R109). -/
theorem absoluteWrite_trace (hprog : microProgram opcode = some absWriteProgram) (h : s.Fetched opcode 4)
    (ht : absoluteWrite opcode s.core.a addr s = .next t) :
    s.trace 4 =
      [⟨s.core.pc + 1#16, true, lo addr, false⟩, ⟨s.core.pc + 2#16, true, hi addr, false⟩,
        ⟨addr, false, s.core.a, false⟩, ⟨s.core.pc + 3#16, true, getData t.pins, true⟩] := by
  obtain ⟨hdone, -, hcore⟩ := absoluteWrite_next ht
  have hpc : t.core.pc = s.core.pc + 3#16 := by rw [hcore]
  obtain ⟨t1, t2, b1, b2, h2⟩ := h.operandsBus hl hh ⟨_, hprog, rfl, rfl⟩ ⟨_, hprog, rfl, rfl⟩
    ((absoluteWrite_cycles hl hh hprog h).trans ht)
  obtain ⟨t3, b3, -⟩ := h2.writeStepBus (f := storeAccumulatorStep) ⟨_, hprog, rfl, rfl⟩ b2.run rfl
    (a := addr) (b := s.core.a) (by simp [setAddressAndData, h2.assembled b2.data]) (by simp)
    (by simp [setAddressAndData, h2.core_a])
  rw [b1.trace, b2.trace, b3.trace, hdone.trace_last hpc b3.run]

omit hl hh in
theorem State.Runs.modifyBus {m n : Nat} {k : BitVec 3} {pc a : Word} {b : Byte} {u w : State} {op : ShiftOp}
    (h : State.Runs (m + 2) (n + 1) opcode k pc (b.setWidth 16) u s) (hop : op.WritesOnly [.c, .z, .n])
    (hstep : StepAt opcode k (modifyStep op) false) (ha : getAddress s.pins = a) (hrun : s.cycles (m + 2) = .next w) :
    ∃ t, s.BusTo t w (m + 1) ⟨a, false, (op b u.core.p).1, false⟩ := by
  have hok : modifyStep op s.dispatchCore s.tickPins =
      .ok ({ s.dispatchCore with
        s := s.dispatchCore.s, p := (op b u.core.p).2, brkFlags := s.dispatchCore.brkFlags, pc := s.dispatchCore.pc,
        ad := s.dispatchCore.ad },
        beginWrite (setData s.tickPins (op b u.core.p).1)) := by
    simp only [modifyStep, h.core_ad, lo_setWidth, h.core_p]
  obtain ⟨t, hbus, -⟩ := h.writeBus (b := (op b u.core.p).1) hstep hrun hok
    (.inr (hop _ _ _ (by decide))) (by simpa using ha) (by simp) (by simp)
  exact ⟨t, hbus⟩

theorem absoluteModify_trace {op : ShiftOp} {m : Byte} (hop : op.WritesOnly [.c, .z, .n])
    (hprog : microProgram opcode = some (absModifyProgram op)) (h : s.Fetched opcode 6) (hm : s.readByte addr = some m)
    (ht : absoluteModify opcode op addr s = .next t) :
    s.trace 6 =
      [⟨s.core.pc + 1#16, true, lo addr, false⟩, ⟨s.core.pc + 2#16, true, hi addr, false⟩, ⟨addr, true, m, false⟩,
        ⟨addr, false, m, false⟩, ⟨addr, false, (op m s.core.p).1, false⟩,
        ⟨s.core.pc + 3#16, true, getData t.pins, true⟩] := by
  obtain ⟨hdone, _, -, -, hcore⟩ := absoluteModify_next ht
  have hpc : t.core.pc = s.core.pc + 3#16 := by rw [hcore]
  obtain ⟨t1, t2, b1, b2, h2⟩ := h.operandsBus hl hh ⟨_, hprog, rfl, rfl⟩ ⟨_, hprog, rfl, rfl⟩
    ((absoluteModify_cycles hl hh hop hprog h).trans ht)
  obtain ⟨t3, b3, h3⟩ := h2.readKnownBus (f := readEffectiveStep) ⟨_, hprog, rfl, rfl⟩ b2.run
    (by rw [readEffectiveStep, h2.assembled b2.data, join_hi_lo]) (by simpa using hm)
  obtain ⟨t4, b4, h4⟩ := h3.writeStepBus (f := dummyWriteStep) ⟨_, hprog, rfl, rfl⟩ b3.run
    (by rw [dummyWriteStep, State.getData_tickPins, b3.data]) (by simpa using b3.address) (by simp)
    (by simpa using b3.data)
  obtain ⟨t5, b5⟩ := h4.modifyBus hop ⟨_, hprog, rfl, rfl⟩ b4.address b4.run
  rw [State.writeByte_core, State.instrTicks_p] at b5
  rw [b1.trace, b2.trace, b3.trace, b4.trace, b5.trace, hdone.trace_last hpc b5.run]

theorem execJmp_trace (h : s.Fetched 0x4C#8 3) (ht : execJmp addr s = .next t) :
    s.trace 3 =
      [⟨s.core.pc + 1#16, true, lo addr, false⟩, ⟨s.core.pc + 2#16, true, hi addr, false⟩,
        ⟨addr, true, getData t.pins, true⟩] := by
  have hprog : microProgram 0x4C#8 = some jmpProgram := rfl
  obtain ⟨hdone, -, hcore⟩ := execJmp_next ht
  have hpc : t.core.pc = addr := by rw [hcore]
  obtain ⟨t1, t2, b1, b2, -⟩ := h.operandsBus hl hh ⟨_, hprog, rfl, rfl⟩ ⟨_, hprog, rfl, rfl⟩
    ((execJmp_cycles hl hh h).trans ht)
  rw [b1.trace, b2.trace, hdone.trace_last hpc b2.run]

end

end

/-! ### JSR -/

theorem execJsr_trace {s t : State} {addr : Word} {d : Byte} (h : s.Fetched 0x20#8 6)
    (hl : s.readByte (s.core.pc + 1#16) = some (lo addr)) (hd : s.readByte (stackSlot s.core.s) = some d)
    (ht : execJsr addr s = .next t) :
    s.trace 6 =
      [⟨s.core.pc + 1#16, true, lo addr, false⟩, ⟨stackSlot s.core.s, true, d, false⟩,
        ⟨stackSlot s.core.s, false, hi (s.core.pc + 2#16), false⟩,
        ⟨stackSlot (s.core.s - 1#8), false, lo (s.core.pc + 2#16), false⟩,
        ⟨s.core.pc + 2#16, true, hi t.core.pc, false⟩, ⟨t.core.pc, true, getData t.pins, true⟩] := by
  have hprog : microProgram 0x20#8 = some jsrProgram := rfl
  obtain ⟨hdone, -, b, hb, hcore⟩ := execJsr_next ht
  have hpc : hi t.core.pc = b := by rw [hcore, hi_join]
  obtain ⟨t1, b1, h1⟩ := h.operandBus (m := 4) ⟨_, hprog, rfl, rfl⟩ hl ((execJsr_cycles hl h).trans ht)
  obtain ⟨t2, b2, h2⟩ := h1.readKnownBus (f := peekStackStep) (pc' := s.core.pc + 2#16) ⟨_, hprog, rfl, rfl⟩ b1.run
    (by rw [peekStackStep, h1.core_stackAddress, Core.stackAddress_eq, State.instrTicks_s, ← h1.core_pc])
    (by simpa using hd)
  obtain ⟨t3, b3, h3⟩ := h2.pushBus (f := pushStep hi) (reset := false) (b := hi (s.core.pc + 2#16))
    (pc' := s.core.pc + 2#16) ⟨_, hprog, rfl, rfl⟩ b2.run (by rw [pushStep, h2.core_pc, ← h2.core_pc])
  obtain ⟨t4, b4, h4⟩ := h3.pushBus (f := pushStep lo) (reset := false) (b := lo (s.core.pc + 2#16))
    (pc' := s.core.pc + 2#16) ⟨_, hprog, rfl, rfl⟩ b3.run (by rw [pushStep, h3.core_pc, ← h3.core_pc])
  obtain ⟨t5, b5, -⟩ := h4.dummyReadBus ⟨_, hprog, rfl, rfl⟩ hb b4.run
  rw [b1.trace, b2.trace, b3.trace, b4.trace, b5.trace, hdone.trace_last rfl b5.run, hpc]
  simp [pushBusCycle]

/-! ### A BRK sequence -/

/-- Steps 1 to 6, whatever is pending at their start: three pushes, the vector, the handler's fetch. -/
theorem State.Runs.brkSequence_trace {pc ad : Word} {u s t : State} (h : State.Runs 6 0 0x00#8 1#3 pc ad u s)
    (hrun : s.cycles 6 = .next t) :
    s.trace 6 =
      [pushBusCycle u.mem u.core.s (resetPending u.core.brkFlags) (hi (returnAddress u.core.brkFlags pc)),
        pushBusCycle u.mem (u.core.s - 1#8) (resetPending u.core.brkFlags) (lo (returnAddress u.core.brkFlags pc)),
        pushBusCycle u.mem (u.core.s - 2#8) (resetPending u.core.brkFlags) (pushedStatus u.core.p),
        ⟨vectorFor u.core.brkFlags, true, lo t.core.pc, false⟩,
        ⟨vectorFor u.core.brkFlags + 1#16, true, hi t.core.pc, false⟩, ⟨t.core.pc, true, getData t.pins, true⟩] := by
  have hprog : microProgram 0x00#8 = some brkProgram := rfl
  have hu := u.passTicks_same 4
  have h1 := h.catchUp (by decide) 4
  obtain ⟨t1, b1, h2⟩ := h1.pushBus (f := brkPushHighStep) ⟨_, hprog, rfl, rfl⟩ hrun rfl
  rw [h1.core_pc, h1.core_brkFlags, hu.brkFlags] at b1 h2
  obtain ⟨t2, b2, h3⟩ := h2.pushBus (f := brkPushLowStep) ⟨_, hprog, rfl, rfl⟩ b1.run rfl
  rw [h2.core_pc, h2.core_brkFlags, State.afterPush_core, hu.brkFlags] at b2 h3
  obtain ⟨t3, b3, h4⟩ := h3.pushBus (f := brkPushStatusStep) ⟨_, hprog, rfl, rfl⟩ b2.run rfl
  rw [h3.core_p, h3.core_brkFlags, State.afterPush_core, State.afterPush_core, hu.brkFlags, hu.p] at b3 h4
  obtain ⟨t4, l, -, b4, h5⟩ := h4.readBus (f := brkVectorLowStep) ⟨_, hprog, rfl, rfl⟩ b3.run rfl (.inl rfl)
    (getAddress_setAddress _ _) (by simp)
  obtain ⟨t5, b, -, b5, h6⟩ := (h5.catchUp (by decide) 2).readStepBus (f := brkVectorHighStep) ⟨_, hprog, rfl, rfl⟩
    b4.run rfl
  rw [State.getData_tickPins, b4.data] at h6
  rw [h5.core_ad] at b5
  rw [h4.core_ad] at b4 b5
  have hstarts : t.StartsAt (join b l) :=
    (State.fetchNext_next ((h6.jump b5.data rfl ⟨_, hprog, rfl, rfl⟩).symm.trans b5.run)).1
  have ⟨hpc, _⟩ := hstarts
  rw [b1.trace, b2.trace, b3.trace, b4.trace, b5.trace, hstarts.trace_one b5.run, hpc]
  simp [pushBusCycle_afterPush, hu.mem, hu.sp, BitVec.sub_sub]

theorem execBrk_trace {s t : State} {d : Byte} (h : s.Fetched 0x00#8 7) (hd : s.readByte (s.core.pc + 1#16) = some d)
    (ht : execBrk s = .next t) :
    s.trace 7 =
      [⟨s.core.pc + 1#16, true, d, false⟩, ⟨stackSlot s.core.s, false, hi (s.core.pc + 2#16), false⟩,
        ⟨stackSlot (s.core.s - 1#8), false, lo (s.core.pc + 2#16), false⟩,
        ⟨stackSlot (s.core.s - 2#8), false, s.core.p ||| 0x20#8, false⟩,
        ⟨0xFFFE#16, true, lo t.core.pc, false⟩, ⟨0xFFFF#16, true, hi t.core.pc, false⟩,
        ⟨t.core.pc, true, getData t.pins, true⟩] := by
  have hprog : microProgram 0x00#8 = some brkProgram := rfl
  have hflags : s.core.brkFlags = 0#3 := recognised_eq_zero h.quiet
  have hreturn : returnAddress 0#3 (s.core.pc + 1#16) = s.core.pc + 2#16 := BitVec.add_assoc _ _ _
  have hruns := h.runs 0
  rw [State.instrTicks_byteAddress] at hruns
  obtain ⟨t1, b1, h1⟩ := hruns.dummyReadBus (m := 5) ⟨_, hprog, rfl, rfl⟩ (by simpa using hd)
    ((execBrk_cycles h).trans ht)
  rw [b1.trace, h1.brkSequence_trace b1.run, State.instrTicks_brkFlags, hflags, hreturn, State.instrTicks_s,
    State.instrTicks_p]
  rfl

/-! ### A pending reset -/

/-- The interrupt sequence reads at PC, which stays, and runs on with the flags recognised (R219, R221). -/
theorem State.takeInterrupt_trace {s t : State} {d : Byte} (hlive : s.core.fault = none)
    (hsync : pin s.pins .sync = true) (hresb : s.resbHigh 7 = true) (hpending : s.pendingAtSync ≠ 0#3)
    (hd : s.readByte s.core.pc = some d) (ht : s.takeInterrupt = .next t) :
    s.trace 7 =
      [⟨s.core.pc, true, d, false⟩,
        pushBusCycle s.mem s.core.s (resetPending s.pendingAtSync) (hi (returnAddress s.pendingAtSync s.core.pc)),
        pushBusCycle s.mem (s.core.s - 1#8) (resetPending s.pendingAtSync)
          (lo (returnAddress s.pendingAtSync s.core.pc)),
        pushBusCycle s.mem (s.core.s - 2#8) (resetPending s.pendingAtSync) (pushedStatus (setFlag s.core.p .b false)),
        ⟨vectorFor s.pendingAtSync, true, lo t.core.pc, false⟩,
        ⟨vectorFor s.pendingAtSync + 1#16, true, hi t.core.pc, false⟩, ⟨t.core.pc, true, getData t.pins, true⟩] := by
  have hprog : microProgram 0x00#8 = some brkProgram := rfl
  obtain ⟨t1, b1, h1⟩ := (State.runs_interrupt hlive hsync hresb hpending).dummyReadBus (m := 5)
    ⟨_, hprog, rfl, rfl⟩ hd ((State.takeInterrupt_cycles hlive hsync hresb hpending).trans ht)
  rw [b1.trace, h1.brkSequence_trace b1.run]
  rfl

/-- Settles O40: RESET wins over whatever else is recognised, and its pushes are reads. -/
theorem resetPendingEntry : Obligations.ResetPendingEntry := by
  intro s d0 d1 d2 d3 l h hlive hsync hresb hreset h0 h1 h2 h3 hl hh hhandler
  obtain ⟨-, -, hbit⟩ := getLsbD_recognised s.core.brkFlags s.core.irqPip s.core.nmiPip
  have hreset : s.pendingAtSync.getLsbD 2 = true := hbit.trans hreset
  have hpending : s.pendingAtSync ≠ 0#3 := fun h => by simp [h] at hreset
  have hvector : vectorFor s.pendingAtSync = 0xFFFC#16 := by
    rw [vectorFor_of_flags, hreset]
    rfl
  have hslots : ∀ a ∈ brkSlots s.core.s, s.Mapped a := by
    simpa using ⟨State.mapped_of_readByte h1, State.mapped_of_readByte h2, State.mapped_of_readByte h3⟩
  obtain ⟨t, ht, hentered, hinputs⟩ := State.brkSequence_completes_of_reset
    (s := s.entryStart (setFlag s.core.p .b false) s.core.pc s.pendingAtSync) hreset hslots hl hh hhandler
  replace ht := (State.takeInterrupt_of_mapped (State.mapped_of_readByte h0)).trans ht
  have ⟨hpc, _⟩ := hentered.starts
  have htrace := State.takeInterrupt_trace hlive hsync hresb hpending h0 ht
  rw [(resetPending_eq_getLsbD _).trans hreset, pushBusCycle_of_reset h1, pushBusCycle_of_reset h2,
    pushBusCycle_of_reset h3, hvector, hpc, lo_join, hi_join] at htrace
  exact ⟨t, (State.step_of_pending hlive hsync hresb hpending).trans ht, hentered.mem, hentered.sp,
    hentered.p.trans (maskedStatus_setFlag_b _ _), hentered.a, hentered.ad, hentered.brkFlags,
    ⟨hentered.starts, hentered.ir, hentered.pins, hinputs.trans List.drop_tail, hentered.x, hentered.y,
      hentered.fault, hentered.map⟩, htrace⟩

/-! ### The obligations -/

section
variable {s t : State} {i : Instr} (h : s.RunsWhole i)
include h

theorem State.RunsWhole.fetched_implied {program : List MicroStep} (henc : encode i = [i.opcode])
    (hprog : microProgram i.opcode = some program) : s.Fetched i.opcode program.length :=
  (h.fetched henc hprog).1

theorem State.RunsWhole.fetched_immediate {program : List MicroStep} {v : Byte} (henc : encode i = [i.opcode, v])
    (hprog : microProgram i.opcode = some program) :
    s.Fetched i.opcode program.length ∧ s.readByte (s.core.pc + 1#16) = some v := by
  obtain ⟨hfetched, hoperands⟩ := h.fetched henc hprog
  exact ⟨hfetched, by simpa using hoperands 0 _ rfl⟩

theorem State.RunsWhole.fetched_absolute {program : List MicroStep} {addr : Word}
    (henc : encode i = [i.opcode, lo addr, hi addr]) (hprog : microProgram i.opcode = some program) :
    s.Fetched i.opcode program.length ∧ s.readByte (s.core.pc + 1#16) = some (lo addr) ∧
      s.readByte (s.core.pc + 2#16) = some (hi addr) := by
  obtain ⟨hfetched, hoperands⟩ := h.fetched henc hprog
  exact ⟨hfetched, by simpa using hoperands 0 _ rfl, by simpa [BitVec.add_assoc] using hoperands 1 _ rfl⟩

theorem State.RunsWhole.impliedFlag_trace {f : Flag} {value : Bool} (hexec : exec i s = impliedFlag i.opcode f value s)
    (henc : encode i = [i.opcode]) (hprog : microProgram i.opcode = some (impProgram f value)) (ht : exec i s = .next t) :
    s.trace 2 = [⟨s.core.pc + 1#16, true, getData t.pins, false⟩, ⟨s.core.pc + 1#16, true, getData t.pins, true⟩] :=
  Machine.impliedFlag_trace hprog (h.fetched_implied henc hprog) (hexec.symm.trans ht)

theorem State.RunsWhole.accumulator_trace (op : ShiftOp) (hexec : exec i s = accumulator i.opcode op s)
    (henc : encode i = [i.opcode]) (hprog : microProgram i.opcode = some (accProgram op)) (ht : exec i s = .next t) :
    s.trace 2 = [⟨s.core.pc + 1#16, true, getData t.pins, false⟩, ⟨s.core.pc + 1#16, true, getData t.pins, true⟩] :=
  Machine.accumulator_trace hprog (h.fetched_implied henc hprog) (hexec.symm.trans ht)

theorem State.RunsWhole.immediate_trace {v : Byte} (op : ReadOp) (hexec : exec i s = immediate i.opcode op v s)
    (henc : encode i = [i.opcode, v]) (hprog : microProgram i.opcode = some (immProgram op)) (ht : exec i s = .next t) :
    s.trace 2 = [⟨s.core.pc + 1#16, true, v, false⟩, ⟨s.core.pc + 2#16, true, getData t.pins, true⟩] := by
  obtain ⟨hfetched, hv⟩ := h.fetched_immediate henc hprog
  exact Machine.immediate_trace hprog hfetched hv (hexec.symm.trans ht)

theorem State.RunsWhole.absoluteRead_trace {a : Word} {m : Byte} (op : ReadOp)
    (hexec : exec i s = absoluteRead i.opcode op a s) (henc : encode i = [i.opcode, lo a, hi a])
    (hprog : microProgram i.opcode = some (absReadProgram op)) (hm : s.readByte a = some m) (ht : exec i s = .next t) :
    s.trace 4 =
      [⟨s.core.pc + 1#16, true, lo a, false⟩, ⟨s.core.pc + 2#16, true, hi a, false⟩, ⟨a, true, m, false⟩,
        ⟨s.core.pc + 3#16, true, getData t.pins, true⟩] := by
  obtain ⟨hfetched, hl, hh⟩ := h.fetched_absolute henc hprog
  exact Machine.absoluteRead_trace hl hh hprog hfetched hm (hexec.symm.trans ht)

theorem State.RunsWhole.absoluteModify_trace {a : Word} {m : Byte} {op : ShiftOp} (hop : op.WritesOnly [.c, .z, .n])
    (hexec : exec i s = absoluteModify i.opcode op a s) (henc : encode i = [i.opcode, lo a, hi a])
    (hprog : microProgram i.opcode = some (absModifyProgram op)) (hm : s.readByte a = some m) (ht : exec i s = .next t) :
    s.trace 6 =
      [⟨s.core.pc + 1#16, true, lo a, false⟩, ⟨s.core.pc + 2#16, true, hi a, false⟩, ⟨a, true, m, false⟩,
        ⟨a, false, m, false⟩, ⟨a, false, (op m s.core.p).1, false⟩, ⟨s.core.pc + 3#16, true, getData t.pins, true⟩] := by
  obtain ⟨hfetched, hl, hh⟩ := h.fetched_absolute henc hprog
  exact Machine.absoluteModify_trace hl hh hop hprog hfetched hm (hexec.symm.trans ht)

end

/-- Settles O47: each 2-tick form, for each of its instructions. -/
theorem shortInstructionBusCycles : Obligations.ShortInstructionBusCycles := by
  intro s t
  simp only [List.forall_mem_cons]
  refine ⟨⟨?_, ?_, ?_, ?_, ?_, ?_, ?_, ?_, ?_, ?_, ?_, nofun⟩, fun _ => ⟨?_, ?_, ?_, ?_, ?_, ?_, ?_, nofun⟩⟩ <;> intro h
  iterate 7 exact h.impliedFlag_trace rfl rfl rfl
  · exact h.accumulator_trace asl rfl rfl rfl
  · exact h.accumulator_trace rol rfl rfl rfl
  · exact h.accumulator_trace lsr rfl rfl rfl
  · exact h.accumulator_trace ror rfl rfl rfl
  · exact h.immediate_trace opOra rfl rfl rfl
  · exact h.immediate_trace opAnd rfl rfl rfl
  · exact h.immediate_trace opEor rfl rfl rfl
  · exact h.immediate_trace opAdc rfl rfl rfl
  · exact h.immediate_trace opSbc rfl rfl rfl
  · exact h.immediate_trace opCmp rfl rfl rfl
  · exact h.immediate_trace opLda rfl rfl rfl

/-- Settles O48: each absolute form but JSR, for each of its instructions. -/
theorem absoluteInstructionBusCycles : Obligations.AbsoluteInstructionBusCycles := by
  intro a s t
  simp only [List.forall_mem_cons]
  refine ⟨fun m hm => ⟨?_, ?_, ?_, ?_, ?_, ?_, ?_, nofun⟩, ?_, fun m hm => ⟨?_, ?_, ?_, ?_, nofun⟩, ?_⟩ <;> intro h
  · exact h.absoluteRead_trace opOra rfl rfl rfl hm
  · exact h.absoluteRead_trace opAnd rfl rfl rfl hm
  · exact h.absoluteRead_trace opEor rfl rfl rfl hm
  · exact h.absoluteRead_trace opAdc rfl rfl rfl hm
  · exact h.absoluteRead_trace opSbc rfl rfl rfl hm
  · exact h.absoluteRead_trace opCmp rfl rfl rfl hm
  · exact h.absoluteRead_trace opLda rfl rfl rfl hm
  · obtain ⟨hfetched, hl, hh⟩ := h.fetched_absolute rfl rfl
    exact absoluteWrite_trace hl hh rfl hfetched
  · exact h.absoluteModify_trace asl_writesOnly rfl rfl rfl hm
  · exact h.absoluteModify_trace rol_writesOnly rfl rfl rfl hm
  · exact h.absoluteModify_trace lsr_writesOnly rfl rfl rfl hm
  · exact h.absoluteModify_trace ror_writesOnly rfl rfl rfl hm
  · obtain ⟨hfetched, hl, hh⟩ := h.fetched_absolute rfl rfl
    exact execJmp_trace hl hh hfetched

/-- Settles O49: JSR, and BRK with its sequence. -/
theorem stackInstructionBusCycles : Obligations.StackInstructionBusCycles := by
  refine ⟨fun a d s t h hd ht => ?_, fun d s t h hd ht => ?_⟩
  · obtain ⟨hfetched, hl, -⟩ := h.fetched_absolute rfl rfl
    exact execJsr_trace hfetched hl hd ht
  · exact execBrk_trace (h.fetched_implied rfl rfl) hd ht

end Sys2Proof.Machine
end

section
/-! SUPPORT. A reset, as the host makes it: ticks with RESB low, each of which restarts the sequence, then its steps 1 to 6
(`40_engine.md` R95; `60_exceptions.md` R221 to R227; `70_reset_and_hazards.md` R241 to R243). -/

namespace Sys2Proof.Machine

/-! ### Runs of cycles, one after the other -/

section
variable {s t : State} {m : Nat}

theorem State.cycles_add_of_next (h : s.cycles m = .next t) (n : Nat) : s.cycles (m + n) = t.cycles n := by
  induction m generalizing s with
  | zero =>
    cases h
    rw [Nat.zero_add]
  | succ m ih =>
    obtain ⟨u, hu, h⟩ := State.cycles_succ_next h
    rw [Nat.add_right_comm, State.cycles_succ_of_next _ hu, ih h]

theorem State.trace_add_of_next (h : s.cycles m = .next t) (n : Nat) : s.trace (m + n) = s.trace m ++ t.trace n := by
  induction m generalizing s with
  | zero =>
    cases h
    rw [Nat.zero_add]
    rfl
  | succ m ih =>
    obtain ⟨u, hu, h⟩ := State.cycles_succ_next h
    rw [Nat.add_right_comm, State.trace_succ_of_next _ hu, State.trace_succ_of_next _ hu, ih h, List.cons_append]

end

/-! ### Ticks with RESB low -/

/-- From `s` to `t`, one tick or more with RESB low have passed: RESET is pending, and `t` stands at step 1 of the sequence
(R95, R221). -/
structure State.InReset (s t : State) : Prop where
  core : t.core = { s.core with
    ir := ⟨0x00#8, 1#3⟩, p := setFlag s.core.p .b false, brkFlags := t.core.brkFlags, irqPip := t.core.irqPip,
    nmiPip := t.core.nmiPip, pinsPrev := t.core.pinsPrev }
  pending : t.core.brkFlags.getLsbD 2 = true
  sync : pin t.pins .sync = false
  mem : t.mem = s.mem
  map : t.map = s.map

section
variable {s t u : State} (h : s.InReset t)
include h

theorem State.InReset.live : t.core.fault = s.core.fault := by rw [h.core]
theorem State.InReset.sp : t.core.s = s.core.s := by rw [h.core]
theorem State.InReset.p : t.core.p = setFlag s.core.p .b false := by rw [h.core]
theorem State.InReset.pc : t.core.pc = s.core.pc := by rw [h.core]
theorem State.InReset.ir : t.core.ir = ⟨0x00#8, 1#3⟩ := by rw [h.core]

theorem State.InReset.trans (h' : t.InReset u) : s.InReset u where
  core := by rw [h'.core, h.core, setFlag_setFlag_same]
  pending := h'.pending
  sync := h'.sync
  mem := h'.mem.trans h.mem
  map := h'.map.trans h.map

end

/-- Whatever the state of a live core, a tick with RESB low starts the sequence, with a read at PC. -/
theorem State.cycle_of_resbLow {s : State} (hlive : s.core.fault = none) (hresb : s.nextInputs.resb = false)
    (hpc : s.Mapped s.core.pc) :
    ∃ t, s.cycle = .next t ∧ s.InReset t ∧ (busCycle t.pins).read = true ∧ t.SameLines (s.passTick s.fetchQueued) := by
  have hstep : StepAt 0x00#8 0#3 dummyReadStep false := ⟨brkProgram, rfl, rfl, rfl⟩
  have hcore := Core.beforeDispatch_of_reset (c := { s.core with pinsPrev := drive s.core.pinsPrev .phi2 false })
    (p := presentInputs (drive s.pins .phi2 false) s.nextInputs) (by simp [pin_presentInputs, hresb])
  have hok : dummyReadStep s.dispatchCore s.tickPins = .ok (s.dispatchCore, setAddress s.tickPins s.core.pc) := by
    rw [dummyReadStep, State.dispatchCore, hcore]
  have hdispatch : dispatch s.dispatchCore s.tickPins = dummyReadStep s.dispatchCore s.tickPins :=
    dispatch_of_program (program := brkProgram) (by rw [State.dispatchCore, hcore]; rfl)
      (by rw [State.dispatchCore, hcore]; rfl) _
  have hread := State.readByte_of_mapped hpc
  have hserve := State.serve_read (s := { s with
      core := s.dispatchCore.afterDispatch (setAddress s.tickPins s.core.pc), pins := setAddress s.tickPins s.core.pc,
      inputs := s.inputs.tail }) (by simp) (by rw [getAddress_setAddress]; exact hread)
  refine ⟨_, (State.cycle_of_ok hlive (hdispatch.trans hok)).trans hserve, ⟨?_, ?_, by simp, rfl, rfl⟩, by simp [busCycle],
    State.sameLines_passTick (hstep.keeps _ _ _ _ hok) rfl rfl fun k hk => passed_setData _ _ _ hk⟩
  · rw [State.dispatchCore, hcore]
    rfl
  · rw [State.dispatchCore, hcore]
    exact getLsbD_resetTickFlags _ _

theorem State.cycles_of_resbLow {s : State} {low rest : List Inputs} (hlive : s.core.fault = none)
    (hinputs : s.inputs = low ++ rest) (hne : low ≠ []) (hlow : ∀ i ∈ low, i.resb = false) (hpc : s.Mapped s.core.pc) :
    ∃ t, s.cycles low.length = .next t ∧ s.InReset t ∧ t.inputs = rest ∧ ∀ c ∈ s.trace low.length, c.read = true := by
  induction low generalizing s with
  | nil => exact absurd rfl hne
  | cons i low ih =>
    have hnext : s.nextInputs.resb = false := by
      rw [State.nextInputs, hinputs]
      exact hlow i List.mem_cons_self
    obtain ⟨t, ht, hin, hread, hlines⟩ := State.cycle_of_resbLow hlive hnext hpc
    have htail : t.inputs = low ++ rest := by
      rw [hlines.inputs, State.passTick_inputs, hinputs, List.cons_append, List.tail_cons]
    rw [List.length_cons, State.cycles_succ_of_next _ ht, State.trace_succ_of_next _ ht]
    rcases eq_or_ne low [] with rfl | hmore
    · exact ⟨t, rfl, hin, htail, by simpa [State.trace] using hread⟩
    · have hpc' : t.Mapped t.core.pc := by rwa [State.Mapped, hin.pc, hin.map]
      obtain ⟨u, hu, hin', hrest, htrace⟩ := ih (hin.live.trans hlive) htail hmore
        (fun j hj => hlow j (List.mem_cons_of_mem _ hj)) hpc'
      exact ⟨u, hu, hin.trans hin', hrest, List.forall_mem_cons.mpr ⟨hread, htrace⟩⟩

/-! ### The sequence after them -/

section
variable {s t u : State} (hin : s.InReset t)
include hin

/-- Six ticks with RESB high are steps 1 to 6. -/
theorem State.InReset.runs (hlive : s.core.fault = none) (hresb : t.resbHigh 6 = true) :
    State.Runs 6 0 0x00#8 1#3 t.core.pc t.core.ad t t where
  live := hin.live.trans hlive
  resb := hresb
  inside _ := hin.sync
  core := by
    rw [State.dispatchCore_of_inside hin.sync (State.resbHigh_succ hresb).1, ← hin.ir]
    rfl
  mem := rfl
  map := rfl
  lines := .refl t

/-- What the low ticks changed, the sequence sets. -/
theorem State.InReset.entered {pc : Word} {l : Byte} (h : t.ResetEntered u pc l) : s.ResetEntered u pc l where
  starts := h.starts
  a := h.a.trans (by rw [hin.core])
  x := h.x.trans (by rw [hin.core])
  y := h.y.trans (by rw [hin.core])
  sp := h.sp.trans (by rw [hin.sp])
  p := h.p.trans (by rw [hin.p, maskedStatus_setFlag_b, maskedStatus_eq])
  ad := h.ad
  ir := h.ir
  brkFlags := h.brkFlags
  fault := h.fault.trans hin.live
  mem := h.mem.trans hin.mem
  map := h.map.trans hin.map
  pins := h.pins

theorem State.InReset.completes {l h : Byte} (hlive : s.core.fault = none) (hresb : t.resbHigh 6 = true)
    (hslots : ∀ a ∈ brkSlots s.core.s, s.Mapped a) (hl : s.readByte 0xFFFC#16 = some l)
    (hh : s.readByte 0xFFFD#16 = some h) (hhandler : s.Mapped (join h l)) :
    ∃ u, t.cycles 6 = .next u ∧ t.brkSequence t.core.brkFlags = .next u ∧ s.ResetEntered u (join h l) l ∧
      u.inputs = t.inputs.drop 6 ∧ ∀ c ∈ t.trace 6, c.read = true := by
  have hruns := hin.runs hlive hresb
  have hread := State.readByte_congr hin.map hin.mem
  obtain ⟨u, hu, hentered, hinputs⟩ := State.brkSequence_completes_of_reset hin.pending
    (by simpa only [State.Mapped, hin.sp, hin.map] using hslots) ((hread _).trans hl) ((hread _).trans hh)
    (by rwa [State.Mapped, hin.map])
  have hcycles := (hruns.brkSequence rfl).trans hu
  refine ⟨u, hcycles, hu, hin.entered hentered, hinputs, ?_⟩
  rw [hruns.brkSequence_trace hcycles, (resetPending_eq_getLsbD _).trans hin.pending]
  simp [pushBusCycle]

end

/-- Settles O50: the low ticks, then the sequence. -/
theorem resetFromAnyLiveState : Obligations.ResetFromAnyLiveState := by
  intro s low high rest l h hlive hinputs hne hlow hlength hhigh hpc h1 h2 h3 hl hh hhandler
  rw [List.append_assoc] at hinputs
  obtain ⟨t, ht, hin, htail, hreads⟩ := State.cycles_of_resbLow hlive hinputs hne hlow hpc
  have hresb : t.resbHigh 6 = true := by
    rw [State.resbHigh, htail, List.take_left' hlength]
    exact List.all_eq_true.mpr hhigh
  obtain ⟨u, hu, -, hentered, hrest, hreads'⟩ := hin.completes hlive hresb (by simpa using ⟨h1, h2, h3⟩) hl hh hhandler
  refine ⟨u, (State.cycles_add_of_next ht 6).trans hu, hentered.starts, hentered.a, hentered.x, hentered.y, hentered.sp,
    hentered.p.trans (maskedStatus_eq _), hentered.ad, hentered.ir, hentered.brkFlags, hentered.fault.trans hlive,
    hentered.mem, hentered.map, ?_, ?_⟩
  · rw [hrest, htail, List.drop_left' hlength]
  · rw [State.trace_add_of_next ht]
    exact List.forall_mem_append.mpr ⟨hreads, hreads'⟩

/-- At power-up the pipelines are empty, and a tick with IRQB and NMIB high samples nothing (`10_state.md` R32). -/
theorem State.powerUp_passTick_pipelines (sp : Byte) (ad : Word) (mem : Memory) (map : List Region) (resb rdy sync : Bool) :
    ((State.powerUp sp ad mem map [⟨resb, true, true, rdy⟩]).passTick sync).core.irqPip = 0x0000#16 ∧
      ((State.powerUp sp ad mem map [⟨resb, true, true, rdy⟩]).passTick sync).core.nmiPip = 0x0000#16 := by
  simp [State.powerUp, Core.powerUp, State.passTick, State.nextInputs, sampleIrq, sampleNmi, keepYoung, agePip]

/-- Settles O51: from power-up one low tick samples nothing, and no line is active after it. -/
theorem resetFromPowerUp : Obligations.ResetFromPowerUp := by
  rintro sp ad mem map rdy l h _ rfl hpc h1 h2 h3 hl hh hhandler
  obtain ⟨t, ht, hin, -, hlines⟩ := State.cycle_of_resbLow rfl rfl hpc
  have hquiet : t.inputs = [] := hlines.inputs
  obtain ⟨u, hu, hsequence, hentered, -, -⟩ := hin.completes rfl (by rw [State.resbHigh, hquiet]; rfl)
    (by simpa using ⟨h1, h2, h3⟩) hl hh hhandler
  have hticks := State.brkSequence_quiet hquiet hsequence
  obtain ⟨hirq, hnmi⟩ := State.powerUp_passTick_pipelines sp ad mem map false rdy
    (State.powerUp sp ad mem map [⟨false, true, true, rdy⟩]).fetchQueued
  rw [← hlines.irqPip] at hirq
  rw [← hlines.nmiPip] at hnmi
  have hp : maskedStatus 0x02#8 = 0x16#8 := by decide
  exact ⟨u, (State.cycles_succ_of_next 6 ht).trans hu, hentered.starts, hentered.a, hentered.x, hentered.y, hentered.sp,
    hentered.p.trans hp, hentered.ad, hentered.ir, hentered.brkFlags, hticks.irqPip.trans (by rw [hirq]; rfl),
    hticks.nmiPip.trans (by rw [hnmi]; rfl), hentered.fault, hentered.mem, hentered.pins⟩

/-- Settles O53: by evaluation of the model, seven fixed cycles to a fixed state. -/
theorem resetStateIsReached : Obligations.ResetStateIsReached :=
  ⟨rfl, rfl, rfl, rfl, rfl, rfl, by decide⟩

end Sys2Proof.Machine
end
